-- ==== Sys2Proof/Word.lean ====
section
/-!
DEFINITION. The word types of the block: a byte of a buffer and a string of stream bits.
Every column, count and length of the spec is an exact integer (00_scope.md R8), so no other
word type is needed.
-/

namespace Sys2Proof

/-- One byte of `SRC`, `RAS` or `SINK`, the cache or the writer's accumulator. Bit 7 is its most
significant bit (00_scope.md section 5). -/
abbrev Byte := BitVec 8

/-- A bit string in stream order, the first stream bit first (20_memory.md R64). -/
abbrev Bits := List Bool

end Sys2Proof
end

