-- ==== Sys2Proof/Config.lean ====
section
/-!
DEFINITION. What the spec fixes for the block as a whole, and the one value it leaves free.
-/

namespace Sys2Proof

/-- `FILLBIT`, the bit a writer pad emits: the spec fixes it to 0 (00_scope.md R6, 40_bitcursor.md R155,
93_implementation_defined.md U2). -/
def Config.fillBit : Bool := false

/-- Where two sub-causes of one error apply, either may be reported (70_reset_and_hazards.md R378 (f),
93_implementation_defined.md U8). A free value: `true` reports the first that the step's pseudocode tests.
It is applied to the counter `State.free`. -/
opaque Config.subPick : Nat → Bool

end Sys2Proof
end

