-- ==== Sys2Proof/Syntax.lean ====
section
/-!
DEFINITION. The syntax: colours, vertical offsets, decoder contexts, instructions (one constructor for each
row of the opcode table) and the commands an owner can issue.
-/

namespace Sys2Proof

/-- A pixel colour; white is 0 and black is 1 (00_scope.md R9). -/
inductive Color where
  | white | black
  deriving DecidableEq, Repr

/-- A vertical offset `k` in -3..3 (10_state.md R35, 30_encoding.md R114). -/
inductive Offset where
  | zero | right1 | right2 | right3 | left1 | left2 | left3
  deriving DecidableEq, Repr

/-- The decoder context that decides which table is in force (30_encoding.md R101). The colour of a run
context is the colour of the run being read. -/
inductive Context where
  | mode | run (c : Color) | eol | tag
  deriving DecidableEq, Repr

/-- The classes of code words (30_encoding.md R100), and the commands, which have no bits (R122). -/
inductive WordClass where
  | mode | whiteTerm | whiteMakeup | blackTerm | blackMakeup | extMakeup | eol | tag | command
  deriving DecidableEq, Repr

/-- A command as the owner of a standalone cursor or writer issues it: the width `n` is any integer
(40_bitcursor.md R141), and so is the value `v` to write (R152). -/
inductive Command where
  | readBits (n : Int) | flush | bytesRead | writeBits (n v : Int) | pad
  deriving DecidableEq, Repr

/-- The instructions: one constructor for each row of the opcode table (30_encoding.md R123). The operand of
a code word is its table row itself (R100), so only the write commands carry one. -/
inductive Instr where
  -- mode codes (R103)
  | v0 | h | p | vr1 | vl1 | vr2 | vl2 | vr3 | vl3
  -- white terminating codes (R108)
  | wt0 | wt1 | wt2 | wt3 | wt4 | wt5 | wt6 | wt7 | wt8 | wt9 | wt10 | wt11
  | wt12 | wt13 | wt14 | wt15 | wt16 | wt17 | wt18 | wt19 | wt20 | wt21 | wt22 | wt23
  | wt24 | wt25 | wt26 | wt27 | wt28 | wt29 | wt30 | wt31 | wt32 | wt33 | wt34 | wt35
  | wt36 | wt37 | wt38 | wt39 | wt40 | wt41 | wt42 | wt43 | wt44 | wt45 | wt46 | wt47
  | wt48 | wt49 | wt50 | wt51 | wt52 | wt53 | wt54 | wt55 | wt56 | wt57 | wt58 | wt59
  | wt60 | wt61 | wt62 | wt63
  -- white makeup codes (R109)
  | wm64 | wm128 | wm192 | wm256 | wm320 | wm384 | wm448 | wm512 | wm576 | wm640 | wm704 | wm768
  | wm832 | wm896 | wm960 | wm1024 | wm1088 | wm1152 | wm1216 | wm1280 | wm1344 | wm1408 | wm1472 | wm1536
  | wm1600 | wm1664 | wm1728
  -- black terminating codes (R110)
  | bt0 | bt1 | bt2 | bt3 | bt4 | bt5 | bt6 | bt7 | bt8 | bt9 | bt10 | bt11
  | bt12 | bt13 | bt14 | bt15 | bt16 | bt17 | bt18 | bt19 | bt20 | bt21 | bt22 | bt23
  | bt24 | bt25 | bt26 | bt27 | bt28 | bt29 | bt30 | bt31 | bt32 | bt33 | bt34 | bt35
  | bt36 | bt37 | bt38 | bt39 | bt40 | bt41 | bt42 | bt43 | bt44 | bt45 | bt46 | bt47
  | bt48 | bt49 | bt50 | bt51 | bt52 | bt53 | bt54 | bt55 | bt56 | bt57 | bt58 | bt59
  | bt60 | bt61 | bt62 | bt63
  -- black makeup codes (R111)
  | bm64 | bm128 | bm192 | bm256 | bm320 | bm384 | bm448 | bm512 | bm576 | bm640 | bm704 | bm768
  | bm832 | bm896 | bm960 | bm1024 | bm1088 | bm1152 | bm1216 | bm1280 | bm1344 | bm1408 | bm1472 | bm1536
  | bm1600 | bm1664 | bm1728
  -- extended makeup codes of both colours (R112)
  | xm1792 | xm1856 | xm1920 | xm1984 | xm2048 | xm2112 | xm2176 | xm2240 | xm2304 | xm2368 | xm2432 | xm2496
  | xm2560
  -- framing codes (R105, R106)
  | eol | tag0 | tag1
  -- BitCursor commands (40_bitcursor.md R140)
  | readBits1 | readBits2 | readBits3 | readBits4 | readBits5 | readBits6 | readBits7 | readBits8 | readBits16 | readBits24 | readBits32
  | flush | bytesRead
  -- BitWriter commands (40_bitcursor.md R151), with the integer `v` to write
  | writeBits1 (v : Int) | writeBits2 (v : Int) | writeBits3 (v : Int) | writeBits4 (v : Int)
  | writeBits5 (v : Int) | writeBits6 (v : Int) | writeBits7 (v : Int) | writeBits8 (v : Int)
  | writeBits16 (v : Int) | writeBits24 (v : Int) | writeBits32 (v : Int)
  | pad
  deriving DecidableEq, Repr

/-- The class of an instruction: the column `format` of the opcode table (R100, R122). -/
def Instr.format : Instr → WordClass
  | .v0 | .h | .p | .vr1 | .vl1 | .vr2 | .vl2 | .vr3 | .vl3 => .mode
  | .wt0 | .wt1 | .wt2 | .wt3 | .wt4 | .wt5 | .wt6 | .wt7 | .wt8 | .wt9
  | .wt10 | .wt11 | .wt12 | .wt13 | .wt14 | .wt15 | .wt16 | .wt17 | .wt18 | .wt19
  | .wt20 | .wt21 | .wt22 | .wt23 | .wt24 | .wt25 | .wt26 | .wt27 | .wt28 | .wt29
  | .wt30 | .wt31 | .wt32 | .wt33 | .wt34 | .wt35 | .wt36 | .wt37 | .wt38 | .wt39
  | .wt40 | .wt41 | .wt42 | .wt43 | .wt44 | .wt45 | .wt46 | .wt47 | .wt48 | .wt49
  | .wt50 | .wt51 | .wt52 | .wt53 | .wt54 | .wt55 | .wt56 | .wt57 | .wt58 | .wt59
  | .wt60 | .wt61 | .wt62 | .wt63 => .whiteTerm
  | .wm64 | .wm128 | .wm192 | .wm256 | .wm320 | .wm384 | .wm448 | .wm512 | .wm576 | .wm640
  | .wm704 | .wm768 | .wm832 | .wm896 | .wm960 | .wm1024 | .wm1088 | .wm1152 | .wm1216 | .wm1280
  | .wm1344 | .wm1408 | .wm1472 | .wm1536 | .wm1600 | .wm1664 | .wm1728 => .whiteMakeup
  | .bt0 | .bt1 | .bt2 | .bt3 | .bt4 | .bt5 | .bt6 | .bt7 | .bt8 | .bt9
  | .bt10 | .bt11 | .bt12 | .bt13 | .bt14 | .bt15 | .bt16 | .bt17 | .bt18 | .bt19
  | .bt20 | .bt21 | .bt22 | .bt23 | .bt24 | .bt25 | .bt26 | .bt27 | .bt28 | .bt29
  | .bt30 | .bt31 | .bt32 | .bt33 | .bt34 | .bt35 | .bt36 | .bt37 | .bt38 | .bt39
  | .bt40 | .bt41 | .bt42 | .bt43 | .bt44 | .bt45 | .bt46 | .bt47 | .bt48 | .bt49
  | .bt50 | .bt51 | .bt52 | .bt53 | .bt54 | .bt55 | .bt56 | .bt57 | .bt58 | .bt59
  | .bt60 | .bt61 | .bt62 | .bt63 => .blackTerm
  | .bm64 | .bm128 | .bm192 | .bm256 | .bm320 | .bm384 | .bm448 | .bm512 | .bm576 | .bm640
  | .bm704 | .bm768 | .bm832 | .bm896 | .bm960 | .bm1024 | .bm1088 | .bm1152 | .bm1216 | .bm1280
  | .bm1344 | .bm1408 | .bm1472 | .bm1536 | .bm1600 | .bm1664 | .bm1728 => .blackMakeup
  | .xm1792 | .xm1856 | .xm1920 | .xm1984 | .xm2048 | .xm2112 | .xm2176 | .xm2240 | .xm2304 | .xm2368
  | .xm2432 | .xm2496 | .xm2560 => .extMakeup
  | .eol => .eol
  | .tag0 | .tag1 => .tag
  | .readBits1 | .readBits2 | .readBits3 | .readBits4 | .readBits5 | .readBits6 | .readBits7 | .readBits8 | .readBits16 | .readBits24
  | .readBits32 | .flush | .bytesRead
  | .writeBits1 _ | .writeBits2 _ | .writeBits3 _ | .writeBits4 _ | .writeBits5 _ | .writeBits6 _ | .writeBits7 _ | .writeBits8 _
  | .writeBits16 _ | .writeBits24 _ | .writeBits32 _ | .pad => .command

end Sys2Proof
end

