-- ==== Sys2Proof/WellFormed.lean ====
section
/-!
DEFINITION. Which terms make sense: the widths a command may name, the code words of a context, and the
geometry a call may have.
-/

namespace Sys2Proof

/-- The legal widths of `READBITS` and `WRITEBITS`: {1..8, 16, 24, 32} (40_bitcursor.md R142). -/
def legalWidth (n : Int) : Bool := ((1 ≤ n) && (n ≤ 8)) || n == 16 || n == 24 || n == 32

/-- A command is well formed when its width is legal (40_bitcursor.md R142, R152). -/
def Command.wellFormed : Command → Bool
  | .readBits n => legalWidth n
  | .writeBits n _ => legalWidth n
  | .flush | .bytesRead | .pad => true

/-- The classes of the words that a context recognises (30_encoding.md R101). -/
def Context.accepts : Context → WordClass → Bool
  | .mode, f => f == .mode
  | .run .white, f => f == .whiteTerm || f == .whiteMakeup || f == .extMakeup
  | .run .black, f => f == .blackTerm || f == .blackMakeup || f == .extMakeup
  | .eol, f => f == .eol
  | .tag, f => f == .tag

/-- An instruction is well formed in a context when it is a code word that the context recognises. A command
has no bits and is well formed in none (30_encoding.md R101, R122). -/
def wellFormed (ctx : Context) (i : Instr) : Bool := ctx.accepts i.format

/-- The shortest and longest length of the words of a class (30_encoding.md R100). -/
def lengthRange : WordClass → Nat × Nat
  | .mode => (1, 7)
  | .whiteTerm => (4, 8)
  | .whiteMakeup => (5, 9)
  | .blackTerm => (2, 12)
  | .blackMakeup => (10, 13)
  | .extMakeup => (11, 12)
  | .eol => (12, 12)
  | .tag => (1, 1)
  | .command => (0, 0)

/-- `WIDTH` and `HEIGHT` are legal (00_scope.md R6). -/
def legalGeometry (width height : Int) : Bool := (0 < width) && (0 < height)

end Sys2Proof
end

