-- ==== Sys2Proof/Decode.lean ====
section
/-!
DEFINITION. The code tables of 30_encoding.md, the decoder that reads one code word bit by bit in a context,
the encoder, the decoding of commands, and the decoding of a bare opcode-table word.

The run-code rows are the spec's own from general knowledge, not from its source
(93_implementation_defined.md G1; assumption 16).
-/

namespace Sys2Proof

/-- The `n` low bits of `v`, most significant first. -/
def bitsOf : Nat → Nat → Bits
  | 0, _ => []
  | n + 1, v => v.testBit n :: bitsOf n v

/-- The bits of a byte in stream order, bit 7 first (20_memory.md R64). -/
def byteBits (b : Byte) : Bits := bitsOf 8 b.toNat

/-- The bits of an instruction in stream order, from the tables of 30_encoding.md (R103, R105, R106, R108 to
R112). A command has no bit encoding (R122). -/
def encode : Instr → Bits
  | .v0 => bitsOf 1 0b1
  | .h => bitsOf 3 0b001
  | .p => bitsOf 4 0b0001
  | .vr1 => bitsOf 3 0b011
  | .vl1 => bitsOf 3 0b010
  | .vr2 => bitsOf 6 0b000011
  | .vl2 => bitsOf 6 0b000010
  | .vr3 => bitsOf 7 0b0000011
  | .vl3 => bitsOf 7 0b0000010
  | .wt0 => bitsOf 8 0b00110101
  | .wt1 => bitsOf 6 0b000111
  | .wt2 => bitsOf 4 0b0111
  | .wt3 => bitsOf 4 0b1000
  | .wt4 => bitsOf 4 0b1011
  | .wt5 => bitsOf 4 0b1100
  | .wt6 => bitsOf 4 0b1110
  | .wt7 => bitsOf 4 0b1111
  | .wt8 => bitsOf 5 0b10011
  | .wt9 => bitsOf 5 0b10100
  | .wt10 => bitsOf 5 0b00111
  | .wt11 => bitsOf 5 0b01000
  | .wt12 => bitsOf 6 0b001000
  | .wt13 => bitsOf 6 0b000011
  | .wt14 => bitsOf 6 0b110100
  | .wt15 => bitsOf 6 0b110101
  | .wt16 => bitsOf 6 0b101010
  | .wt17 => bitsOf 6 0b101011
  | .wt18 => bitsOf 7 0b0100111
  | .wt19 => bitsOf 7 0b0001100
  | .wt20 => bitsOf 7 0b0001000
  | .wt21 => bitsOf 7 0b0010111
  | .wt22 => bitsOf 7 0b0000011
  | .wt23 => bitsOf 7 0b0000100
  | .wt24 => bitsOf 7 0b0101000
  | .wt25 => bitsOf 7 0b0101011
  | .wt26 => bitsOf 7 0b0010011
  | .wt27 => bitsOf 7 0b0100100
  | .wt28 => bitsOf 7 0b0011000
  | .wt29 => bitsOf 8 0b00000010
  | .wt30 => bitsOf 8 0b00000011
  | .wt31 => bitsOf 8 0b00011010
  | .wt32 => bitsOf 8 0b00011011
  | .wt33 => bitsOf 8 0b00010010
  | .wt34 => bitsOf 8 0b00010011
  | .wt35 => bitsOf 8 0b00010100
  | .wt36 => bitsOf 8 0b00010101
  | .wt37 => bitsOf 8 0b00010110
  | .wt38 => bitsOf 8 0b00010111
  | .wt39 => bitsOf 8 0b00101000
  | .wt40 => bitsOf 8 0b00101001
  | .wt41 => bitsOf 8 0b00101010
  | .wt42 => bitsOf 8 0b00101011
  | .wt43 => bitsOf 8 0b00101100
  | .wt44 => bitsOf 8 0b00101101
  | .wt45 => bitsOf 8 0b00000100
  | .wt46 => bitsOf 8 0b00000101
  | .wt47 => bitsOf 8 0b00001010
  | .wt48 => bitsOf 8 0b00001011
  | .wt49 => bitsOf 8 0b01010010
  | .wt50 => bitsOf 8 0b01010011
  | .wt51 => bitsOf 8 0b01010100
  | .wt52 => bitsOf 8 0b01010101
  | .wt53 => bitsOf 8 0b00100100
  | .wt54 => bitsOf 8 0b00100101
  | .wt55 => bitsOf 8 0b01011000
  | .wt56 => bitsOf 8 0b01011001
  | .wt57 => bitsOf 8 0b01011010
  | .wt58 => bitsOf 8 0b01011011
  | .wt59 => bitsOf 8 0b01001010
  | .wt60 => bitsOf 8 0b01001011
  | .wt61 => bitsOf 8 0b00110010
  | .wt62 => bitsOf 8 0b00110011
  | .wt63 => bitsOf 8 0b00110100
  | .wm64 => bitsOf 5 0b11011
  | .wm128 => bitsOf 5 0b10010
  | .wm192 => bitsOf 6 0b010111
  | .wm256 => bitsOf 7 0b0110111
  | .wm320 => bitsOf 8 0b00110110
  | .wm384 => bitsOf 8 0b00110111
  | .wm448 => bitsOf 8 0b01100100
  | .wm512 => bitsOf 8 0b01100101
  | .wm576 => bitsOf 8 0b01101000
  | .wm640 => bitsOf 8 0b01100111
  | .wm704 => bitsOf 9 0b011001100
  | .wm768 => bitsOf 9 0b011001101
  | .wm832 => bitsOf 9 0b011010010
  | .wm896 => bitsOf 9 0b011010011
  | .wm960 => bitsOf 9 0b011010100
  | .wm1024 => bitsOf 9 0b011010101
  | .wm1088 => bitsOf 9 0b011010110
  | .wm1152 => bitsOf 9 0b011010111
  | .wm1216 => bitsOf 9 0b011011000
  | .wm1280 => bitsOf 9 0b011011001
  | .wm1344 => bitsOf 9 0b011011010
  | .wm1408 => bitsOf 9 0b011011011
  | .wm1472 => bitsOf 9 0b010011000
  | .wm1536 => bitsOf 9 0b010011001
  | .wm1600 => bitsOf 9 0b010011010
  | .wm1664 => bitsOf 6 0b011000
  | .wm1728 => bitsOf 9 0b010011011
  | .bt0 => bitsOf 10 0b0000110111
  | .bt1 => bitsOf 3 0b010
  | .bt2 => bitsOf 2 0b11
  | .bt3 => bitsOf 2 0b10
  | .bt4 => bitsOf 3 0b011
  | .bt5 => bitsOf 4 0b0011
  | .bt6 => bitsOf 4 0b0010
  | .bt7 => bitsOf 5 0b00011
  | .bt8 => bitsOf 6 0b000101
  | .bt9 => bitsOf 6 0b000100
  | .bt10 => bitsOf 7 0b0000100
  | .bt11 => bitsOf 7 0b0000101
  | .bt12 => bitsOf 7 0b0000111
  | .bt13 => bitsOf 8 0b00000100
  | .bt14 => bitsOf 8 0b00000111
  | .bt15 => bitsOf 9 0b000011000
  | .bt16 => bitsOf 10 0b0000010111
  | .bt17 => bitsOf 10 0b0000011000
  | .bt18 => bitsOf 10 0b0000001000
  | .bt19 => bitsOf 11 0b00001100111
  | .bt20 => bitsOf 11 0b00001101000
  | .bt21 => bitsOf 11 0b00001101100
  | .bt22 => bitsOf 11 0b00000110111
  | .bt23 => bitsOf 11 0b00000101000
  | .bt24 => bitsOf 11 0b00000010111
  | .bt25 => bitsOf 11 0b00000011000
  | .bt26 => bitsOf 12 0b000011001010
  | .bt27 => bitsOf 12 0b000011001011
  | .bt28 => bitsOf 12 0b000011001100
  | .bt29 => bitsOf 12 0b000011001101
  | .bt30 => bitsOf 12 0b000001101000
  | .bt31 => bitsOf 12 0b000001101001
  | .bt32 => bitsOf 12 0b000001101010
  | .bt33 => bitsOf 12 0b000001101011
  | .bt34 => bitsOf 12 0b000011010010
  | .bt35 => bitsOf 12 0b000011010011
  | .bt36 => bitsOf 12 0b000011010100
  | .bt37 => bitsOf 12 0b000011010101
  | .bt38 => bitsOf 12 0b000011010110
  | .bt39 => bitsOf 12 0b000011010111
  | .bt40 => bitsOf 12 0b000001101100
  | .bt41 => bitsOf 12 0b000001101101
  | .bt42 => bitsOf 12 0b000011011010
  | .bt43 => bitsOf 12 0b000011011011
  | .bt44 => bitsOf 12 0b000001010100
  | .bt45 => bitsOf 12 0b000001010101
  | .bt46 => bitsOf 12 0b000001010110
  | .bt47 => bitsOf 12 0b000001010111
  | .bt48 => bitsOf 12 0b000001100100
  | .bt49 => bitsOf 12 0b000001100101
  | .bt50 => bitsOf 12 0b000001010010
  | .bt51 => bitsOf 12 0b000001010011
  | .bt52 => bitsOf 12 0b000000100100
  | .bt53 => bitsOf 12 0b000000110111
  | .bt54 => bitsOf 12 0b000000111000
  | .bt55 => bitsOf 12 0b000000100111
  | .bt56 => bitsOf 12 0b000000101000
  | .bt57 => bitsOf 12 0b000001011000
  | .bt58 => bitsOf 12 0b000001011001
  | .bt59 => bitsOf 12 0b000000101011
  | .bt60 => bitsOf 12 0b000000101100
  | .bt61 => bitsOf 12 0b000001011010
  | .bt62 => bitsOf 12 0b000001100110
  | .bt63 => bitsOf 12 0b000001100111
  | .bm64 => bitsOf 10 0b0000001111
  | .bm128 => bitsOf 12 0b000011001000
  | .bm192 => bitsOf 12 0b000011001001
  | .bm256 => bitsOf 12 0b000001011011
  | .bm320 => bitsOf 12 0b000000110011
  | .bm384 => bitsOf 12 0b000000110100
  | .bm448 => bitsOf 12 0b000000110101
  | .bm512 => bitsOf 13 0b0000001101100
  | .bm576 => bitsOf 13 0b0000001101101
  | .bm640 => bitsOf 13 0b0000001001010
  | .bm704 => bitsOf 13 0b0000001001011
  | .bm768 => bitsOf 13 0b0000001001100
  | .bm832 => bitsOf 13 0b0000001001101
  | .bm896 => bitsOf 13 0b0000001110010
  | .bm960 => bitsOf 13 0b0000001110011
  | .bm1024 => bitsOf 13 0b0000001110100
  | .bm1088 => bitsOf 13 0b0000001110101
  | .bm1152 => bitsOf 13 0b0000001110110
  | .bm1216 => bitsOf 13 0b0000001110111
  | .bm1280 => bitsOf 13 0b0000001010010
  | .bm1344 => bitsOf 13 0b0000001010011
  | .bm1408 => bitsOf 13 0b0000001010100
  | .bm1472 => bitsOf 13 0b0000001010101
  | .bm1536 => bitsOf 13 0b0000001011010
  | .bm1600 => bitsOf 13 0b0000001011011
  | .bm1664 => bitsOf 13 0b0000001100100
  | .bm1728 => bitsOf 13 0b0000001100101
  | .xm1792 => bitsOf 11 0b00000001000
  | .xm1856 => bitsOf 11 0b00000001100
  | .xm1920 => bitsOf 11 0b00000001101
  | .xm1984 => bitsOf 12 0b000000010010
  | .xm2048 => bitsOf 12 0b000000010011
  | .xm2112 => bitsOf 12 0b000000010100
  | .xm2176 => bitsOf 12 0b000000010101
  | .xm2240 => bitsOf 12 0b000000010110
  | .xm2304 => bitsOf 12 0b000000010111
  | .xm2368 => bitsOf 12 0b000000011100
  | .xm2432 => bitsOf 12 0b000000011101
  | .xm2496 => bitsOf 12 0b000000011110
  | .xm2560 => bitsOf 12 0b000000011111
  | .eol => bitsOf 12 0b000000000001
  | .tag0 => bitsOf 1 0b0
  | .tag1 => bitsOf 1 0b1
  | .readBits1 | .readBits2 | .readBits3 | .readBits4 | .readBits5 | .readBits6 | .readBits7 | .readBits8 | .readBits16 | .readBits24
  | .readBits32 | .flush | .bytesRead
  | .writeBits1 _ | .writeBits2 _ | .writeBits3 _ | .writeBits4 _ | .writeBits5 _ | .writeBits6 _ | .writeBits7 _ | .writeBits8 _
  | .writeBits16 _ | .writeBits24 _ | .writeBits32 _ | .pad => []

/-- The run value of a run code word (R108 to R112); no other instruction has one. -/
def runValue : Instr → Option Nat
  | .wt0 => some 0 | .wt1 => some 1 | .wt2 => some 2 | .wt3 => some 3 | .wt4 => some 4
  | .wt5 => some 5 | .wt6 => some 6 | .wt7 => some 7 | .wt8 => some 8 | .wt9 => some 9
  | .wt10 => some 10 | .wt11 => some 11 | .wt12 => some 12 | .wt13 => some 13 | .wt14 => some 14
  | .wt15 => some 15 | .wt16 => some 16 | .wt17 => some 17 | .wt18 => some 18 | .wt19 => some 19
  | .wt20 => some 20 | .wt21 => some 21 | .wt22 => some 22 | .wt23 => some 23 | .wt24 => some 24
  | .wt25 => some 25 | .wt26 => some 26 | .wt27 => some 27 | .wt28 => some 28 | .wt29 => some 29
  | .wt30 => some 30 | .wt31 => some 31 | .wt32 => some 32 | .wt33 => some 33 | .wt34 => some 34
  | .wt35 => some 35 | .wt36 => some 36 | .wt37 => some 37 | .wt38 => some 38 | .wt39 => some 39
  | .wt40 => some 40 | .wt41 => some 41 | .wt42 => some 42 | .wt43 => some 43 | .wt44 => some 44
  | .wt45 => some 45 | .wt46 => some 46 | .wt47 => some 47 | .wt48 => some 48 | .wt49 => some 49
  | .wt50 => some 50 | .wt51 => some 51 | .wt52 => some 52 | .wt53 => some 53 | .wt54 => some 54
  | .wt55 => some 55 | .wt56 => some 56 | .wt57 => some 57 | .wt58 => some 58 | .wt59 => some 59
  | .wt60 => some 60 | .wt61 => some 61 | .wt62 => some 62 | .wt63 => some 63
  | .wm64 => some 64 | .wm128 => some 128 | .wm192 => some 192 | .wm256 => some 256 | .wm320 => some 320
  | .wm384 => some 384 | .wm448 => some 448 | .wm512 => some 512 | .wm576 => some 576 | .wm640 => some 640
  | .wm704 => some 704 | .wm768 => some 768 | .wm832 => some 832 | .wm896 => some 896 | .wm960 => some 960
  | .wm1024 => some 1024 | .wm1088 => some 1088 | .wm1152 => some 1152 | .wm1216 => some 1216 | .wm1280 => some 1280
  | .wm1344 => some 1344 | .wm1408 => some 1408 | .wm1472 => some 1472 | .wm1536 => some 1536 | .wm1600 => some 1600
  | .wm1664 => some 1664 | .wm1728 => some 1728
  | .bt0 => some 0 | .bt1 => some 1 | .bt2 => some 2 | .bt3 => some 3 | .bt4 => some 4
  | .bt5 => some 5 | .bt6 => some 6 | .bt7 => some 7 | .bt8 => some 8 | .bt9 => some 9
  | .bt10 => some 10 | .bt11 => some 11 | .bt12 => some 12 | .bt13 => some 13 | .bt14 => some 14
  | .bt15 => some 15 | .bt16 => some 16 | .bt17 => some 17 | .bt18 => some 18 | .bt19 => some 19
  | .bt20 => some 20 | .bt21 => some 21 | .bt22 => some 22 | .bt23 => some 23 | .bt24 => some 24
  | .bt25 => some 25 | .bt26 => some 26 | .bt27 => some 27 | .bt28 => some 28 | .bt29 => some 29
  | .bt30 => some 30 | .bt31 => some 31 | .bt32 => some 32 | .bt33 => some 33 | .bt34 => some 34
  | .bt35 => some 35 | .bt36 => some 36 | .bt37 => some 37 | .bt38 => some 38 | .bt39 => some 39
  | .bt40 => some 40 | .bt41 => some 41 | .bt42 => some 42 | .bt43 => some 43 | .bt44 => some 44
  | .bt45 => some 45 | .bt46 => some 46 | .bt47 => some 47 | .bt48 => some 48 | .bt49 => some 49
  | .bt50 => some 50 | .bt51 => some 51 | .bt52 => some 52 | .bt53 => some 53 | .bt54 => some 54
  | .bt55 => some 55 | .bt56 => some 56 | .bt57 => some 57 | .bt58 => some 58 | .bt59 => some 59
  | .bt60 => some 60 | .bt61 => some 61 | .bt62 => some 62 | .bt63 => some 63
  | .bm64 => some 64 | .bm128 => some 128 | .bm192 => some 192 | .bm256 => some 256 | .bm320 => some 320
  | .bm384 => some 384 | .bm448 => some 448 | .bm512 => some 512 | .bm576 => some 576 | .bm640 => some 640
  | .bm704 => some 704 | .bm768 => some 768 | .bm832 => some 832 | .bm896 => some 896 | .bm960 => some 960
  | .bm1024 => some 1024 | .bm1088 => some 1088 | .bm1152 => some 1152 | .bm1216 => some 1216 | .bm1280 => some 1280
  | .bm1344 => some 1344 | .bm1408 => some 1408 | .bm1472 => some 1472 | .bm1536 => some 1536 | .bm1600 => some 1600
  | .bm1664 => some 1664 | .bm1728 => some 1728
  | .xm1792 => some 1792 | .xm1856 => some 1856 | .xm1920 => some 1920 | .xm1984 => some 1984 | .xm2048 => some 2048
  | .xm2112 => some 2112 | .xm2176 => some 2176 | .xm2240 => some 2240 | .xm2304 => some 2304 | .xm2368 => some 2368
  | .xm2432 => some 2432 | .xm2496 => some 2496 | .xm2560 => some 2560
  | _ => none

/-- The rows of the mode table (R103). -/
def modeWords : List Instr :=
  ([.v0, .h, .p, .vr1, .vl1, .vr2, .vl2, .vr3, .vl3] : List Instr)

/-- The white terminating rows (R108). -/
def whiteTermWords : List Instr :=
  ([.wt0, .wt1, .wt2, .wt3, .wt4, .wt5, .wt6, .wt7, .wt8, .wt9, .wt10, .wt11, .wt12, .wt13] : List Instr) ++
  ([.wt14, .wt15, .wt16, .wt17, .wt18, .wt19, .wt20, .wt21, .wt22, .wt23, .wt24, .wt25, .wt26, .wt27] : List Instr) ++
  ([.wt28, .wt29, .wt30, .wt31, .wt32, .wt33, .wt34, .wt35, .wt36, .wt37, .wt38, .wt39, .wt40, .wt41] : List Instr) ++
  ([.wt42, .wt43, .wt44, .wt45, .wt46, .wt47, .wt48, .wt49, .wt50, .wt51, .wt52, .wt53, .wt54, .wt55] : List Instr) ++
  ([.wt56, .wt57, .wt58, .wt59, .wt60, .wt61, .wt62, .wt63] : List Instr)

/-- The white makeup rows (R109). -/
def whiteMakeupWords : List Instr :=
  ([.wm64, .wm128, .wm192, .wm256, .wm320, .wm384, .wm448, .wm512, .wm576, .wm640, .wm704, .wm768, .wm832, .wm896] : List Instr) ++
  ([.wm960, .wm1024, .wm1088, .wm1152, .wm1216, .wm1280, .wm1344, .wm1408, .wm1472, .wm1536, .wm1600, .wm1664, .wm1728] : List Instr)

/-- The black terminating rows (R110). -/
def blackTermWords : List Instr :=
  ([.bt0, .bt1, .bt2, .bt3, .bt4, .bt5, .bt6, .bt7, .bt8, .bt9, .bt10, .bt11, .bt12, .bt13] : List Instr) ++
  ([.bt14, .bt15, .bt16, .bt17, .bt18, .bt19, .bt20, .bt21, .bt22, .bt23, .bt24, .bt25, .bt26, .bt27] : List Instr) ++
  ([.bt28, .bt29, .bt30, .bt31, .bt32, .bt33, .bt34, .bt35, .bt36, .bt37, .bt38, .bt39, .bt40, .bt41] : List Instr) ++
  ([.bt42, .bt43, .bt44, .bt45, .bt46, .bt47, .bt48, .bt49, .bt50, .bt51, .bt52, .bt53, .bt54, .bt55] : List Instr) ++
  ([.bt56, .bt57, .bt58, .bt59, .bt60, .bt61, .bt62, .bt63] : List Instr)

/-- The black makeup rows (R111). -/
def blackMakeupWords : List Instr :=
  ([.bm64, .bm128, .bm192, .bm256, .bm320, .bm384, .bm448, .bm512, .bm576, .bm640, .bm704, .bm768, .bm832, .bm896] : List Instr) ++
  ([.bm960, .bm1024, .bm1088, .bm1152, .bm1216, .bm1280, .bm1344, .bm1408, .bm1472, .bm1536, .bm1600, .bm1664, .bm1728] : List Instr)

/-- The extended makeup rows, shared by both colours (R112). -/
def extMakeupWords : List Instr :=
  ([.xm1792, .xm1856, .xm1920, .xm1984, .xm2048, .xm2112, .xm2176, .xm2240, .xm2304, .xm2368, .xm2432, .xm2496, .xm2560] : List Instr)

/-- `TAB(c)`: the run-code rows of a colour (41_run_codes.md R181). -/
def runWords : Color → List Instr
  | .white => whiteTermWords ++ whiteMakeupWords ++ extMakeupWords
  | .black => blackTermWords ++ blackMakeupWords ++ extMakeupWords

/-- The table in force in a context (30_encoding.md R101). -/
def tableOf : Context → List Instr
  | .mode => modeWords
  | .run c => runWords c
  | .eol => [.eol]
  | .tag => [.tag0, .tag1]

/-- The length of the shortest word of a context (R102; `MINLEN`, 41_run_codes.md R181). -/
def minLen : Context → Nat
  | .mode => 1
  | .run .white => 4
  | .run .black => 2
  | .eol => 12
  | .tag => 1

/-- The length of the longest word of a context (R102; `MAXLEN`, 41_run_codes.md R181; 42_mode_codes.md R213). -/
def maxLen : Context → Nat
  | .mode => 7
  | .run .white => 12
  | .run .black => 13
  | .eol => 12
  | .tag => 1

/-- The row of the table in force whose encoding is exactly the bits read so far; shorter strings than the
shortest word are not tested (41_run_codes.md R181). -/
def matchRow (ctx : Context) (code : Bits) : Option Instr :=
  if code.length < minLen ctx then none else (tableOf ctx).find? (fun i => encode i == code)

/-- What asking a bit source for its next bit gives: a bit and the source after it, the end of the source, or
a byte that the source owed and does not hold (assumption 7). -/
inductive NextBit (σ : Type) where
  | bit (b : Bool) (s : σ) | endOfStream | absent

/-- What reading one code word gives: the instruction and the source just after its bits; no row after the
longest length; the end of the source inside the word; a byte that the source owed and does not hold. The
source in `noRow` and `truncated` is the one where reading stopped. -/
inductive Decoded (σ : Type) where
  | word (i : Instr) (s : σ) | noRow (s : σ) | truncated (s : σ) | absent

/-- Read one more bit and try the rows again, at most `n` times (30_encoding.md R102, 41_run_codes.md R181,
42_mode_codes.md R213, 43_rows_and_raster.md R252). -/
def decodeLoop {σ : Type} (next : σ → NextBit σ) (ctx : Context) : Nat → Bits → σ → Decoded σ
  | 0, _, s => .noRow s
  | n + 1, code, s =>
    match next s with
    | .bit b s' =>
      match matchRow ctx (code ++ [b]) with
      | some i => .word i s'
      | none => decodeLoop next ctx n (code ++ [b]) s'
    | .endOfStream => .truncated s
    | .absent => .absent

/-- Read one code word of the context from any bit source. -/
def decodeWith {σ : Type} (next : σ → NextBit σ) (ctx : Context) (s : σ) : Decoded σ :=
  decodeLoop next ctx (maxLen ctx) [] s

/-- The next bit of a plain bit string. -/
def nextOfBits : Bits → NextBit Bits
  | [] => .endOfStream
  | b :: bs => .bit b bs

/-- Read one code word of the context from a bit string; total, rejecting by name. -/
def decode (ctx : Context) (bits : Bits) : Decoded Bits := decodeWith nextOfBits ctx bits

/-- Read one code word of the context from bytes, most significant bit first. -/
def decodeBytes (ctx : Context) (bytes : List Byte) : Decoded Bits := decode ctx (bytes.flatMap byteBits)

/-- The instruction of an owner's command; a width outside {1..8, 16, 24, 32} names none (40_bitcursor.md
R142, R152). -/
def Command.instr : Command → Option Instr
  | .readBits 1 => some .readBits1
  | .readBits 2 => some .readBits2
  | .readBits 3 => some .readBits3
  | .readBits 4 => some .readBits4
  | .readBits 5 => some .readBits5
  | .readBits 6 => some .readBits6
  | .readBits 7 => some .readBits7
  | .readBits 8 => some .readBits8
  | .readBits 16 => some .readBits16
  | .readBits 24 => some .readBits24
  | .readBits 32 => some .readBits32
  | .readBits _ => none
  | .flush => some .flush
  | .bytesRead => some .bytesRead
  | .writeBits 1 v => some (.writeBits1 v)
  | .writeBits 2 v => some (.writeBits2 v)
  | .writeBits 3 v => some (.writeBits3 v)
  | .writeBits 4 v => some (.writeBits4 v)
  | .writeBits 5 v => some (.writeBits5 v)
  | .writeBits 6 v => some (.writeBits6 v)
  | .writeBits 7 v => some (.writeBits7 v)
  | .writeBits 8 v => some (.writeBits8 v)
  | .writeBits 16 v => some (.writeBits16 v)
  | .writeBits 24 v => some (.writeBits24 v)
  | .writeBits 32 v => some (.writeBits32 v)
  | .writeBits _ _ => none
  | .pad => some .pad

/-- "Reverse lookup from run length to the code bit pattern" (44_encoder.md R296): the row of a list of run
code words with the given value. -/
def rowOfValue (words : List Instr) (n : Nat) : Option Instr := words.find? (fun i => runValue i == some n)

/-- The code words of `XM2560` repeated while the remainder is at least 2624, then at most one makeup word,
then the terminating word (44_encoder.md R296). `fuel` bounds the repetitions. -/
def encodeRunLoop (c : Color) : Nat → Nat → List Instr
  | fuel + 1, n =>
    if 2624 ≤ n then .xm2560 :: encodeRunLoop c fuel (n - 2560)
    else if 64 ≤ n then (rowOfValue (runWords c) (64 * (n / 64))).toList ++ (rowOfValue (runWords c) (n % 64)).toList
    else (rowOfValue (runWords c) n).toList
  | 0, _ => []

/-- `encodeRun(c, n)`: the code words of a run of colour `c` and length `n` (44_encoder.md R296). -/
def encodeRun (c : Color) (n : Nat) : List Instr := encodeRunLoop c (n + 1) n

/-- The bits of a sequence of code words, concatenated (30_encoding.md R120). -/
def encodeAll (is : List Instr) : Bits := is.flatMap encode

/-- The bytes of an opcode-table word of `nbits` bits, bits 7..0 the first byte. -/
def tableBytes (nbits w : Nat) : List Byte :=
  (List.range ((nbits + 7) / 8)).map (fun j => BitVec.ofNat 8 (w >>> (8 * j)))

/-- The contexts in the order in which a bare table word is tried (assumption 15). -/
def contextOrder : List Context := [.run .white, .run .black, .mode, .eol, .tag]

/-- The instruction that a context reads from the bits, if what is left over is fewer than eight 0 bits. -/
def wholeWord (bits : Bits) (ctx : Context) : Option (Context × Instr) :=
  match decode ctx bits with
  | .word i rest => if rest.length < 8 && rest.all (fun b => !b) then some (ctx, i) else none
  | .noRow _ => none
  | .truncated _ => none
  | .absent => none

/-- The context and instruction of a bare table word. A word does not carry its context (30_encoding.md
R101), so the first context of `contextOrder` that reads the whole word decides (assumption 15). -/
def tableWord (nbits w : Nat) : Option (Context × Instr) :=
  contextOrder.findSome? (wholeWord ((tableBytes nbits w).flatMap byteBits))

/-- The instruction of a bare opcode-table word. -/
def decodeTableWord (nbits w : Nat) : Option Instr := (tableWord nbits w).map Prod.snd

end Sys2Proof
end

