-- ==== Sys2Proof/Machine/State.lean ====
section
/-!
DEFINITION. The state of one instance of the block, as plain data, the reasons a step can stop, and reset.
INVENTORY.md lists every field with the rule of spec/ that names it.
-/

namespace Sys2Proof.Machine

/-- The byte order of multi-byte reads and writes, `ORDER` (10_state.md R25). -/
inductive ByteOrder where
  | le | be
  deriving DecidableEq, Repr

/-- The state of the machine, `STATE` (10_state.md R29); `busy` is the encoder's unnamed busy state (R41). -/
inductive Stage where
  | idle | rowStart | readMode | pass | horiz | vert | rowEnd | oneD | done | failed | busy
  deriving DecidableEq, Repr

/-- The error kinds, `ERR` (10_state.md R30, 60_exceptions.md R320). -/
inductive ErrKind where
  | none | invalidBitCount | crossByteBoundary | incompleteBitRead | decompressionError | eolError
  | invalidGeometry | endOfStream
  deriving DecidableEq, Repr

/-- The informative sub-causes of `DecompressionError` (60_exceptions.md R322). -/
inductive SubCause where
  | badModeCode | badRunCode | verticalRange | stall | runOverflow | nonMonotonic | truncated
  deriving DecidableEq, Repr

/-- What the host has set the instance up for (60_exceptions.md R343); the model's own (assumption 10). -/
inductive Call where
  | decompress | compress | standalone
  deriving DecidableEq, Repr

/-- What the last standalone command gave its owner: nothing yet, success without a value, a value, or an
error kind (60_exceptions.md R343); the model's own (assumption 10). -/
inductive Response where
  | none | ok | value (n : Nat) | error (k : ErrKind)
  deriving DecidableEq, Repr

/-- A byte space: its written bytes by rising address. A byte that is not listed has no value (assumption 6). -/
abbrev Memory := List Host.Cell

/-- The four pieces of state of a BitCursor (10_state.md R20 to R25). -/
structure Cursor where
  /-- `ORDER`, R25. -/
  order : ByteOrder
  /-- `cache`, R23. -/
  cache : Byte
  /-- `rem`, R24. -/
  rem : Nat
  /-- `bytesRead`, R21. -/
  bytesRead : Nat
  deriving DecidableEq, Repr

/-- The state of a BitWriter (10_state.md R27). -/
structure BitWriter where
  /-- The writer's `ORDER`. -/
  order : ByteOrder
  /-- `acc`, the byte being assembled. -/
  acc : Byte
  /-- `cnt`, the number of bits placed in `acc`. -/
  cnt : Nat
  /-- `sinkLen`, the length of `SINK`. -/
  sinkLen : Nat
  /-- `SINK` (20_memory.md R62). -/
  sink : Memory
  deriving DecidableEq, Repr

/-- The whole state of an instance. -/
structure State where
  /-- The BitCursor over `SRC` (10_state.md R20). -/
  rd : Cursor
  /-- The BitWriter (10_state.md R27). -/
  wr : BitWriter
  /-- `SRC` (20_memory.md R60). -/
  src : Memory
  /-- `SRC_LEN` (00_scope.md R6). -/
  srcLen : Nat
  /-- `RAS` (20_memory.md R61). -/
  ras : Memory
  /-- `WIDTH` (10_state.md R28). -/
  width : Int
  /-- `HEIGHT` (10_state.md R28). -/
  height : Int
  /-- `FILL` (10_state.md R28). -/
  fill : Bool
  /-- `MIXED` (10_state.md R28). -/
  mixed : Bool
  /-- `STATE` (10_state.md R29). -/
  stage : Stage
  /-- `ERR` (10_state.md R30). -/
  err : ErrKind
  /-- `SUB`, informative (60_exceptions.md R322). -/
  sub : Option SubCause
  /-- `row` (10_state.md R31). -/
  row : Nat
  /-- `a0` (10_state.md R32). -/
  a0 : Int
  /-- `color` (10_state.md R33). -/
  color : Color
  /-- `b1` (10_state.md R34). -/
  b1 : Int
  /-- `b2` (10_state.md R34). -/
  b2 : Int
  /-- `k` (10_state.md R35). -/
  k : Offset
  /-- `ref` (10_state.md R37). -/
  ref : List Int
  /-- `cur` (10_state.md R38). -/
  cur : List Int
  /-- `tot`, the run length accumulated so far (10_state.md R36); kept between code words (assumption 1). -/
  tot : Nat
  /-- The first run of a Horizontal once it is complete, `r1` of 42_mode_codes.md R219 (assumption 1). -/
  r1 : Option Nat
  /-- The row's `EOL` has been read and its tag bit is due (43_rows_and_raster.md R253; assumption 1). -/
  eolSeen : Bool
  /-- The encoder is inside a row (44_encoder.md R291; assumption 14). -/
  rowOpen : Bool
  /-- What the host has set the instance up for (assumption 10). -/
  call : Call
  /-- The owner's commands not yet issued (assumption 10). -/
  cmds : List Command
  /-- What the last standalone command returned (assumption 10). -/
  resp : Response
  /-- How many free choices have been made (assumption 8). -/
  free : Nat
  deriving DecidableEq, Repr

/-- Why a step stops the machine. None of these is an error kind of the spec: those are state
(60_exceptions.md R320) and a step that raises one answers a next state. -/
inductive Fault where
  /-- Raised by a step in `DONE`: the call is over and no step is enabled (43_rows_and_raster.md R270).
  Safe. -/
  | callDone
  /-- Raised by a step in `FAILED`: the call is over and no step is enabled (60_exceptions.md R330). Safe. -/
  | callFailed
  /-- Raised by a step of a standalone cursor or writer whose owner has issued no command
  (40_bitcursor.md R140; assumption 10). Safe. -/
  | noCommand
  /-- Raised when a byte is read that the host owed and did not supply: a byte of `SRC` below `SRC_LEN`
  (20_memory.md R60) or of the raster given to the encoder (assumption 7). Safe. -/
  | absentByte
  deriving DecidableEq, Repr

/-- Why the model gives an instruction or a call no meaning. -/
inductive Refusal where
  /-- Answered by the dispatch for an instruction without a meaning. Safe. -/
  | notModelled (mnemonic : String)
  /-- Answered for a code word outside the contexts that recognise it (30_encoding.md R101; assumption 11).
  No step of the machine reaches it. Safe. -/
  | outOfContext
  /-- Answered for a command issued while a call is in progress or over, which the host has no move for
  (93_implementation_defined.md U10; assumption 11). No step of the machine reaches it. Safe. -/
  | callInProgress
  /-- Answered by the start of `compress` on a raster of the wrong length (44_encoder.md R290,
  93_implementation_defined.md U7; assumption 13). Safe. -/
  | rasterLength
  deriving DecidableEq, Repr

/-- What a meaning answers. -/
abbrev Result := Host.Outcome State Fault Refusal

/-- A BitCursor right after its creation (10_state.md R45). -/
def Cursor.fresh (order : ByteOrder) : Cursor := { order := order, cache := 0, rem := 0, bytesRead := 0 }

/-- A BitWriter right after its creation (10_state.md R45). -/
def BitWriter.fresh (order : ByteOrder) : BitWriter :=
  { order := order, acc := 0, cnt := 0, sinkLen := 0, sink := [] }

/-- The machine right after reset (10_state.md R45, 70_reset_and_hazards.md R361): no call in progress and
nothing supplied by the host. The values of `ORDER`, `WIDTH`, `HEIGHT`, `FILL`, `MIXED` and `SRC_LEN`
(assumptions 3, 4), of `b1`, `b2` and `k` (assumption 5) and of the model's own fields (assumptions 1, 8, 10,
14) are DESIGN CHOICES: the spec gives none. -/
def State.reset : State :=
  { rd := Cursor.fresh .le
    wr := BitWriter.fresh .le
    src := []
    srcLen := 0
    ras := []
    width := 0
    height := 0
    fill := false
    mixed := false
    stage := .idle
    err := .none
    sub := none
    row := 0
    a0 := -1
    color := .white
    b1 := 0
    b2 := 0
    k := .zero
    ref := []
    cur := []
    tot := 0
    r1 := none
    eolSeen := false
    rowOpen := false
    call := .decompress
    cmds := []
    resp := .none
    free := 0 }

end Sys2Proof.Machine
end

