-- ==== Sys2Proof/Machine/Operands.lean ====
section
/-!
DEFINITION. Operand forms: fields of bits, multi-byte values, vertical offsets, the reference positions
`b1`, `b2`, `a1`, `a2`, the start column and the colour of the run being read.
-/

namespace Sys2Proof.Machine

/-- The mask of the `n` low bits, `(1 << n) - 1` (00_scope.md R8). -/
def lowMask (n : Nat) : Nat := (1 <<< n) - 1

/-- The top `n` of the `rem` unread bits of the cache, as an unsigned value (40_bitcursor.md R144). -/
def topField (cache : Byte) (rem n : Nat) : Nat := (cache.toNat >>> (rem - n)) &&& lowMask n

/-- The low `n` bits of an integer, as an unsigned value: `v & (2^n - 1)` (40_bitcursor.md R152, R154;
assumption 22 for a negative `v`). -/
def lowField (n : Nat) (v : Int) : Nat := (v % (2 ^ n : Nat)).toNat

/-- Bytes as a value, the first byte least significant (20_memory.md R66). -/
def leValue : List Byte → Nat
  | [] => 0
  | b :: bs => b.toNat + 256 * leValue bs

/-- Bytes as a value, the first byte most significant (20_memory.md R66). -/
def beValue (bs : List Byte) : Nat := leValue bs.reverse

/-- The value of bytes consumed in this order, under a byte order (20_memory.md R66). -/
def orderedValue : ByteOrder → List Byte → Nat
  | .le, bs => leValue bs
  | .be, bs => beValue bs

/-- The `m` bytes of a value, least significant first. -/
def leBytes : Nat → Nat → List Byte
  | 0, _ => []
  | m + 1, v => BitVec.ofNat 8 v :: leBytes m (v / 256)

/-- The `m` bytes of a value in the order in which they are written (40_bitcursor.md R154). -/
def orderedBytes : ByteOrder → Nat → Nat → List Byte
  | .le, m, v => leBytes m v
  | .be, m, v => (leBytes m v).reverse

/-- The value of a vertical offset (30_encoding.md R103, R114). -/
def offsetValue : Offset → Int
  | .zero => 0
  | .right1 => 1
  | .right2 => 2
  | .right3 => 3
  | .left1 => -1
  | .left2 => -2
  | .left3 => -3

/-- The mode code word of a vertical offset (30_encoding.md R103). -/
def offsetInstr : Offset → Instr
  | .zero => .v0
  | .right1 => .vr1
  | .right2 => .vr2
  | .right3 => .vr3
  | .left1 => .vl1
  | .left2 => .vl2
  | .left3 => .vl3

/-- The vertical offset of a difference `a1 - b1`, if there is one (44_encoder.md R293, R295). -/
def offsetOf (d : Int) : Option Offset :=
  [Offset.zero, .right1, .right2, .right3, .left1, .left2, .left3].find? (fun o => offsetValue o == d)

/-- The other colour (00_scope.md R9). -/
def opp : Color → Color
  | .white => .black
  | .black => .white

/-- `findB` from some index of the reference line on; `parity` is `white` at an even index and `black` at an
odd one, so that it is compared with `color` directly (42_mode_codes.md R210). -/
def findBFrom (width a0 : Int) (color parity : Color) : List Int → Int × Int
  | [] => (width, width)
  | e :: rest =>
    if parity = color ∧ a0 < e then (e, rest.headD width)
    else findBFrom width a0 color (opp parity) rest

/-- `findB(ref, a0, color)`: the reference positions `b1` and `b2` (42_mode_codes.md R210). -/
def findB (width : Int) (ref : List Int) (a0 : Int) (color : Color) : Int × Int :=
  findBFrom width a0 color .white ref

/-- `findA(cur, a0)`: the next changing element `a1` on the coding line and the one after it, `a2`
(44_encoder.md R292). -/
def findA (width : Int) (a0 : Int) : List Int → Int × Int
  | [] => (width, width)
  | e :: rest => if a0 < e then (e, rest.headD width) else findA width a0 rest

/-- The start column `max(a0, 0)` (42_mode_codes.md R231). -/
def startColumn (a0 : Int) : Int := max a0 0

/-- `ROWBYTES = (WIDTH + 7) div 8` (00_scope.md R6). -/
def rowBytes (width : Int) : Nat := ((width + 7) / 8).toNat

/-- The colour of the run being read: in `HORIZ` the first run has the colour `color` and the second the
other, in `ONE_D` a run has the colour `color` (30_encoding.md R101). -/
def State.runColor (s : State) : Option Color :=
  match s.stage with
  | .horiz => some (if s.r1.isSome then opp s.color else s.color)
  | .oneD => some s.color
  | _ => none

/-- Bit `7 - j` of a byte: the `j`-th of its bits in stream order (20_memory.md R64). -/
def byteBit (b : Byte) (j : Nat) : Bool := b.getLsbD (7 - j)

end Sys2Proof.Machine
end

