-- ==== Sys2Proof/Machine/Flags.lean ====
section
/-!
DEFINITION. The block's one condition flag is `color` (10_state.md R33); this file holds its flip, the
conditions a step tests, and the changing-element record whose parity it follows.
-/

namespace Sys2Proof.Machine

/-- `color <- opp(color)` (42_mode_codes.md R220, 43_rows_and_raster.md R256). -/
def State.flipColor (s : State) : State := { s with color := opp s.color }

/-- `NextState()`: the row ends when `a0 >= WIDTH` (42_mode_codes.md R233). -/
def nextStage (width a0 : Int) : Stage := if width ≤ a0 then .rowEnd else .readMode

/-- The same test of a one-dimensional row (43_rows_and_raster.md R256). -/
def nextStageOneD (width a0 : Int) : Stage := if width ≤ a0 then .rowEnd else .oneD

/-- The stall guard: a step that does not strictly increase `a0` (42_mode_codes.md R232). -/
def stalled (old a0 : Int) : Bool := a0 ≤ old

/-- `record(e)`: the coding line after recording `e`; the sentinel is never stored; `none` where the element
is not right of the last one (42_mode_codes.md R230). -/
def record (width : Int) (cur : List Int) (e : Int) : Option (List Int) :=
  if e = width then some cur
  else
    match cur.getLast? with
    | some l => if e ≤ l then none else some (cur ++ [e])
    | none => some (cur ++ [e])

end Sys2Proof.Machine
end

