-- ==== Sys2Proof/Machine/Ops.lean ====
section
/-!
DEFINITION. The named operations over memories, the BitCursor and the BitWriter, and raising an error.
-/

namespace Sys2Proof.Machine

/-! ### Memory -/

/-- The byte at an address; none where nothing has been written (assumption 6). -/
def Memory.read : Memory → Nat → Option Byte
  | [], _ => none
  | (k, b) :: m, a => if k = a then some b else Memory.read m a

/-- Write one byte, keeping the addresses rising. -/
def Memory.write : Memory → Nat → Byte → Memory
  | [], a, b => [(a, b)]
  | (k, c) :: m, a, b =>
    if a < k then (a, b) :: (k, c) :: m
    else if a = k then (a, b) :: m
    else (k, c) :: Memory.write m a b

/-- The canonical form: addresses strictly rising. An unlisted address has no value, so no entry can repeat
what it reads as. -/
abbrev Memory.wf (m : Memory) : Prop := m.Pairwise (fun x y => x.1 < y.1)

/-- The `n` bytes from an address on, in increasing index order; none where one of them has no value. -/
def Memory.readBytes (m : Memory) : Nat → Nat → Option (List Byte)
  | _, 0 => some []
  | a, n + 1 =>
    match m.read a, Memory.readBytes m (a + 1) n with
    | some b, some bs => some (b :: bs)
    | _, _ => none

/-- Write bytes from an address on, in increasing index order. -/
def Memory.writeBytes (m : Memory) : Nat → List Byte → Memory
  | _, [] => m
  | a, b :: bs => Memory.writeBytes (m.write a b) (a + 1) bs

/-- A buffer that holds exactly these bytes, from index 0 on (20_memory.md R60). -/
def Memory.ofBytes (bs : List Byte) : Memory := Memory.writeBytes [] 0 bs

/-- The memory holds exactly the addresses below `n`. -/
def Memory.holdsExactly (m : Memory) (n : Nat) : Bool := m.map Prod.fst == List.range n

/-- Stream bit `t`: bit `7 - (t mod 8)` of `SRC[t div 8]` (20_memory.md R64). A byte without a value counts as
0 here; the machine never reads a stream bit through this function. -/
def streamBit (src : Memory) (t : Nat) : Bool := byteBit ((src.read (t / 8)).getD 0) (t % 8)

/-! ### BitCursor (40_bitcursor.md) -/

/-- What `READBITS` answers: a value and the cursor after it, an error kind with the cursor as it was, or the
want of a byte that the host owed. -/
inductive ReadOut where
  | value (v : Nat) (c : Cursor) | error (k : ErrKind) | absent
  deriving DecidableEq, Repr

/-- `BITPOS = 8 * bytesRead - rem` (10_state.md R22). -/
def Cursor.bitPos (c : Cursor) : Nat := 8 * c.bytesRead - c.rem

/-- The boundary check and the extraction of a sub-byte read (40_bitcursor.md R144). -/
def Cursor.takeField (c : Cursor) (n : Nat) : ReadOut :=
  if c.rem < n then .error .crossByteBoundary
  else .value (topField c.cache c.rem n) { c with rem := c.rem - n }

/-- `SubByteRead(n)`: the pull where the cache is empty (40_bitcursor.md R143), then the extraction. -/
def Cursor.subByteRead (c : Cursor) (src : Memory) (srcLen n : Nat) : ReadOut :=
  if c.rem = 0 then
    if srcLen ≤ c.bytesRead then .error .endOfStream
    else
      match src.read c.bytesRead with
      | some b => ({ c with cache := b, bytesRead := c.bytesRead + 1, rem := 8 } : Cursor).takeField n
      | none => .absent
  else c.takeField n

/-- `ByteRead()` (40_bitcursor.md R146). -/
def Cursor.byteRead (c : Cursor) (src : Memory) (srcLen : Nat) : ReadOut :=
  if c.rem ≠ 0 then .error .incompleteBitRead
  else if srcLen ≤ c.bytesRead then .error .endOfStream
  else
    match src.read c.bytesRead with
    | some b => .value b.toNat { c with bytesRead := c.bytesRead + 1 }
    | none => .absent

/-- `MultiByteRead(8 * m)` (40_bitcursor.md R145). -/
def Cursor.multiByteRead (c : Cursor) (src : Memory) (srcLen m : Nat) : ReadOut :=
  if c.rem ≠ 0 then .error .incompleteBitRead
  else if srcLen < c.bytesRead + m then .error .endOfStream
  else
    match src.readBytes c.bytesRead m with
    | some bs => .value (orderedValue c.order bs) { c with bytesRead := c.bytesRead + m }
    | none => .absent

/-- `READBITS n` (40_bitcursor.md R142): the width is tested first, on `n` alone. -/
def Cursor.readBits (c : Cursor) (src : Memory) (srcLen : Nat) (n : Int) : ReadOut :=
  if legalWidth n = false then .error .invalidBitCount
  else if n < 8 then c.subByteRead src srcLen n.toNat
  else if n = 8 then c.byteRead src srcLen
  else c.multiByteRead src srcLen (n.toNat / 8)

/-- `FLUSH`: `rem <- 0` (40_bitcursor.md R148). -/
def Cursor.flush (c : Cursor) : Cursor := { c with rem := 0 }

/-- `rb()`, the decoder's one-bit read, before its conversion of the end of the source
(40_bitcursor.md R150). `READBITS 1` has no other error. -/
def State.nextBit (s : State) : NextBit State :=
  match s.rd.readBits s.src s.srcLen 1 with
  | .value v c => .bit (v == 1) { s with rd := c }
  | .error _ => .endOfStream
  | .absent => .absent

/-! ### BitWriter (40_bitcursor.md section 5) -/

/-- What `WRITEBITS` answers: the writer after it, or an error kind with the writer as it was. -/
inductive WriteOut where
  | ok (w : BitWriter) | error (k : ErrKind)
  deriving DecidableEq, Repr

/-- Append bytes to `SINK`. -/
def BitWriter.append (w : BitWriter) (bs : List Byte) : BitWriter :=
  { w with sink := w.sink.writeBytes w.sinkLen bs, sinkLen := w.sinkLen + bs.length }

/-- `CompleteByte()` (40_bitcursor.md R153). -/
def BitWriter.completeByte (w : BitWriter) : BitWriter := { w.append [w.acc] with acc := 0, cnt := 0 }

/-- Place the low `n` bits of `v` in the highest free positions of `acc` (40_bitcursor.md R152). -/
def BitWriter.place (w : BitWriter) (n : Nat) (v : Int) : BitWriter :=
  { w with acc := w.acc ||| BitVec.ofNat 8 (lowField n v <<< (8 - w.cnt - n)), cnt := w.cnt + n }

/-- The sub-byte form of `WRITEBITS` (40_bitcursor.md R152). -/
def BitWriter.subByteWrite (w : BitWriter) (n : Nat) (v : Int) : WriteOut :=
  if 8 - w.cnt < n then .error .crossByteBoundary
  else if (w.place n v).cnt = 8 then .ok (w.place n v).completeByte
  else .ok (w.place n v)

/-- The aligned forms of `WRITEBITS`, `m` bytes (40_bitcursor.md R154). One byte is the same in either
order. -/
def BitWriter.alignedWrite (w : BitWriter) (m : Nat) (v : Int) : WriteOut :=
  if w.cnt ≠ 0 then .error .incompleteBitRead
  else .ok (w.append (orderedBytes w.order m (lowField (8 * m) v)))

/-- `WRITEBITS n v` (40_bitcursor.md R152, R154). -/
def BitWriter.writeBits (w : BitWriter) (n v : Int) : WriteOut :=
  if legalWidth n = false then .error .invalidBitCount
  else if n < 8 then w.subByteWrite n.toNat v
  else w.alignedWrite (n.toNat / 8) v

/-- The bits of `acc` not yet written, as the pad emits them: `FILLBIT` in each (40_bitcursor.md R155). -/
def BitWriter.fillFree (w : BitWriter) : BitWriter :=
  if Config.fillBit then { w with acc := w.acc ||| BitVec.ofNat 8 (lowMask (8 - w.cnt)) } else w

/-- `PAD()` (40_bitcursor.md R155). -/
def BitWriter.pad (w : BitWriter) : BitWriter := if 0 < w.cnt then w.fillFree.completeByte else w

/-- One step of `emit`: `WRITEBITS 1 c`, which cannot fail (40_bitcursor.md R158). -/
def BitWriter.emitBit (w : BitWriter) (b : Bool) : BitWriter :=
  match w.writeBits 1 (if b then 1 else 0) with
  | .ok w' => w'
  | .error _ => w

/-- `emit(w)`: the bits of a bit string in stream order (40_bitcursor.md R158). -/
def BitWriter.emit (w : BitWriter) (bits : Bits) : BitWriter := bits.foldl BitWriter.emitBit w

/-! ### Raising an error, and answering a command -/

/-- `raise K(sub)` in a step of a call (60_exceptions.md R329): `ERR`, `SUB` and `STATE` are written and the
call is over. Nothing is saved and control goes nowhere, so there is no return (R332). The raster of a failed
`decompress` has no value any more (R331; assumption 6) and the step's temporaries end (assumption 1). Every other register keeps the value it has
where this is called, which R329 leaves open (DESIGN CHOICE, assumption 25). -/
def State.raise (s : State) (k : ErrKind) (sub : Option SubCause) : State :=
  { s with
    err := k
    sub := sub
    stage := .failed
    ras := if s.call = .decompress then [] else s.ras
    tot := 0
    r1 := none
    eolSeen := false
    rowOpen := false }

/-- Raise `DecompressionError` with one sub-cause (60_exceptions.md R325). -/
def State.raiseData (s : State) (sub : SubCause) : State := s.raise .decompressionError (some sub)

/-- Raise `DecompressionError` where two sub-causes apply: either may be reported, the model leaves it free
(70_reset_and_hazards.md R378 (f); assumption 8). -/
def State.raiseEither (s : State) (a b : SubCause) : State :=
  { s.raise .decompressionError (some (if Config.subPick s.free then a else b)) with free := s.free + 1 }

/-- Raise what a context raises when no row matches (42_mode_codes.md R213, 41_run_codes.md R181,
43_rows_and_raster.md R252). A tag bit always matches a row. -/
def State.raiseNoRow (s : State) : Context → State
  | .mode => s.raiseData .badModeCode
  | .run _ => s.raiseData .badRunCode
  | .eol => s.raise .eolError none
  | .tag => s.raiseData .badModeCode

/-- Give the owner of a standalone cursor or writer its answer. -/
def State.respond (s : State) (r : Response) : State := { s with resp := r }

end Sys2Proof.Machine
end

