-- ==== Sys2Proof/Machine/Runs.lean ====
section
/-!
DEFINITION. The shared operations of the run code words: accumulating a run, and what a complete run does in
`HORIZ` and in `ONE_D` (41_run_codes.md R183, 42_mode_codes.md R219, 43_rows_and_raster.md R256).
-/

namespace Sys2Proof.Machine

/-- The end of the `HORIZ` step, with both runs decoded: the range check, the two records, the new `a0`, the
stall guard and the next state (42_mode_codes.md R219). Where it raises, `cur` and `a0` keep their values from
before the step (DESIGN CHOICE, assumption 25). -/
def State.finishHorizontal (s : State) (r1 r2 : Nat) : State :=
  let e1 := startColumn s.a0 + r1
  let e2 := e1 + r2
  if s.width < e2 then
    if e1 ≤ s.width ∧ record s.width s.cur e1 = none then s.raiseEither .runOverflow .nonMonotonic
    else s.raiseData .runOverflow
  else
    match record s.width s.cur e1 with
    | none => s.raiseData .nonMonotonic
    | some c1 =>
      match record s.width c1 e2 with
      | none => s.raiseData .nonMonotonic
      | some c2 =>
        if stalled s.a0 e2 then s.raiseData .stall
        else { s with cur := c2, a0 := e2, stage := nextStage s.width e2, tot := 0, r1 := none }

/-- The end of the `ONE_D` step, with its run decoded (43_rows_and_raster.md R256). Where it raises, `a0` keeps its value
from before the step (DESIGN CHOICE, assumption 25). -/
def State.finishOneD (s : State) (n : Nat) : State :=
  let a := s.a0 + n
  if s.width < a then s.raiseData .runOverflow
  else
    match record s.width s.cur a with
    | none => s.raiseData .nonMonotonic
    | some c => { s.flipColor with cur := c, a0 := a, stage := nextStageOneD s.width a, tot := 0 }

/-- A run of length `n` is complete: in `ONE_D` it is the step's run, in `HORIZ` the first run is kept and
the second ends the step. -/
def State.finishRun (s : State) (n : Nat) : State :=
  match s.stage, s.r1 with
  | .oneD, _ => s.finishOneD n
  | _, none => { s with r1 := some n, tot := 0 }
  | _, some r => s.finishHorizontal r n

/-- `tot <- tot + n` (41_run_codes.md R183). -/
def State.addRun (s : State) (n : Nat) : State := { s with tot := s.tot + n }

/-- A terminating code word of colour `c` and value `n`: `tot <- tot + n` and the run ends with length `tot`
(41_run_codes.md R184, R186). -/
def terminating (c : Color) (n : Nat) (s : State) : Result :=
  if s.runColor = some c then .next (s.finishRun (s.tot + n)) else .refused .outOfContext

/-- A makeup code word of colour `c` and value `n`: `tot <- tot + n` and the same run goes on
(41_run_codes.md R185, R187). -/
def makeup (c : Color) (n : Nat) (s : State) : Result :=
  if s.runColor = some c then .next (s.addRun n) else .refused .outOfContext

/-- An extended makeup code word of value `n`, in a run of either colour (41_run_codes.md R188). -/
def extendedMakeup (n : Nat) (s : State) : Result :=
  if s.runColor.isSome then .next (s.addRun n) else .refused .outOfContext

end Sys2Proof.Machine
end

