-- ==== Sys2Proof/Machine/Black.lean ====
section
/-!
DEFINITION. The meanings of the black run code words, one definition for each, over the shared operations of
Machine/Runs.lean (41_run_codes.md R186, R187).
-/

namespace Sys2Proof.Machine

/-- `BT0`: a black run grows by 0 and ends (R186, R110). -/
def execBt0 (s : State) : Result := terminating .black 0 s

/-- `BT1`: a black run grows by 1 and ends (R186, R110). -/
def execBt1 (s : State) : Result := terminating .black 1 s

/-- `BT2`: a black run grows by 2 and ends (R186, R110). -/
def execBt2 (s : State) : Result := terminating .black 2 s

/-- `BT3`: a black run grows by 3 and ends (R186, R110). -/
def execBt3 (s : State) : Result := terminating .black 3 s

/-- `BT4`: a black run grows by 4 and ends (R186, R110). -/
def execBt4 (s : State) : Result := terminating .black 4 s

/-- `BT5`: a black run grows by 5 and ends (R186, R110). -/
def execBt5 (s : State) : Result := terminating .black 5 s

/-- `BT6`: a black run grows by 6 and ends (R186, R110). -/
def execBt6 (s : State) : Result := terminating .black 6 s

/-- `BT7`: a black run grows by 7 and ends (R186, R110). -/
def execBt7 (s : State) : Result := terminating .black 7 s

/-- `BT8`: a black run grows by 8 and ends (R186, R110). -/
def execBt8 (s : State) : Result := terminating .black 8 s

/-- `BT9`: a black run grows by 9 and ends (R186, R110). -/
def execBt9 (s : State) : Result := terminating .black 9 s

/-- `BT10`: a black run grows by 10 and ends (R186, R110). -/
def execBt10 (s : State) : Result := terminating .black 10 s

/-- `BT11`: a black run grows by 11 and ends (R186, R110). -/
def execBt11 (s : State) : Result := terminating .black 11 s

/-- `BT12`: a black run grows by 12 and ends (R186, R110). -/
def execBt12 (s : State) : Result := terminating .black 12 s

/-- `BT13`: a black run grows by 13 and ends (R186, R110). -/
def execBt13 (s : State) : Result := terminating .black 13 s

/-- `BT14`: a black run grows by 14 and ends (R186, R110). -/
def execBt14 (s : State) : Result := terminating .black 14 s

/-- `BT15`: a black run grows by 15 and ends (R186, R110). -/
def execBt15 (s : State) : Result := terminating .black 15 s

/-- `BT16`: a black run grows by 16 and ends (R186, R110). -/
def execBt16 (s : State) : Result := terminating .black 16 s

/-- `BT17`: a black run grows by 17 and ends (R186, R110). -/
def execBt17 (s : State) : Result := terminating .black 17 s

/-- `BT18`: a black run grows by 18 and ends (R186, R110). -/
def execBt18 (s : State) : Result := terminating .black 18 s

/-- `BT19`: a black run grows by 19 and ends (R186, R110). -/
def execBt19 (s : State) : Result := terminating .black 19 s

/-- `BT20`: a black run grows by 20 and ends (R186, R110). -/
def execBt20 (s : State) : Result := terminating .black 20 s

/-- `BT21`: a black run grows by 21 and ends (R186, R110). -/
def execBt21 (s : State) : Result := terminating .black 21 s

/-- `BT22`: a black run grows by 22 and ends (R186, R110). -/
def execBt22 (s : State) : Result := terminating .black 22 s

/-- `BT23`: a black run grows by 23 and ends (R186, R110). -/
def execBt23 (s : State) : Result := terminating .black 23 s

/-- `BT24`: a black run grows by 24 and ends (R186, R110). -/
def execBt24 (s : State) : Result := terminating .black 24 s

/-- `BT25`: a black run grows by 25 and ends (R186, R110). -/
def execBt25 (s : State) : Result := terminating .black 25 s

/-- `BT26`: a black run grows by 26 and ends (R186, R110). -/
def execBt26 (s : State) : Result := terminating .black 26 s

/-- `BT27`: a black run grows by 27 and ends (R186, R110). -/
def execBt27 (s : State) : Result := terminating .black 27 s

/-- `BT28`: a black run grows by 28 and ends (R186, R110). -/
def execBt28 (s : State) : Result := terminating .black 28 s

/-- `BT29`: a black run grows by 29 and ends (R186, R110). -/
def execBt29 (s : State) : Result := terminating .black 29 s

/-- `BT30`: a black run grows by 30 and ends (R186, R110). -/
def execBt30 (s : State) : Result := terminating .black 30 s

/-- `BT31`: a black run grows by 31 and ends (R186, R110). -/
def execBt31 (s : State) : Result := terminating .black 31 s

/-- `BT32`: a black run grows by 32 and ends (R186, R110). -/
def execBt32 (s : State) : Result := terminating .black 32 s

/-- `BT33`: a black run grows by 33 and ends (R186, R110). -/
def execBt33 (s : State) : Result := terminating .black 33 s

/-- `BT34`: a black run grows by 34 and ends (R186, R110). -/
def execBt34 (s : State) : Result := terminating .black 34 s

/-- `BT35`: a black run grows by 35 and ends (R186, R110). -/
def execBt35 (s : State) : Result := terminating .black 35 s

/-- `BT36`: a black run grows by 36 and ends (R186, R110). -/
def execBt36 (s : State) : Result := terminating .black 36 s

/-- `BT37`: a black run grows by 37 and ends (R186, R110). -/
def execBt37 (s : State) : Result := terminating .black 37 s

/-- `BT38`: a black run grows by 38 and ends (R186, R110). -/
def execBt38 (s : State) : Result := terminating .black 38 s

/-- `BT39`: a black run grows by 39 and ends (R186, R110). -/
def execBt39 (s : State) : Result := terminating .black 39 s

/-- `BT40`: a black run grows by 40 and ends (R186, R110). -/
def execBt40 (s : State) : Result := terminating .black 40 s

/-- `BT41`: a black run grows by 41 and ends (R186, R110). -/
def execBt41 (s : State) : Result := terminating .black 41 s

/-- `BT42`: a black run grows by 42 and ends (R186, R110). -/
def execBt42 (s : State) : Result := terminating .black 42 s

/-- `BT43`: a black run grows by 43 and ends (R186, R110). -/
def execBt43 (s : State) : Result := terminating .black 43 s

/-- `BT44`: a black run grows by 44 and ends (R186, R110). -/
def execBt44 (s : State) : Result := terminating .black 44 s

/-- `BT45`: a black run grows by 45 and ends (R186, R110). -/
def execBt45 (s : State) : Result := terminating .black 45 s

/-- `BT46`: a black run grows by 46 and ends (R186, R110). -/
def execBt46 (s : State) : Result := terminating .black 46 s

/-- `BT47`: a black run grows by 47 and ends (R186, R110). -/
def execBt47 (s : State) : Result := terminating .black 47 s

/-- `BT48`: a black run grows by 48 and ends (R186, R110). -/
def execBt48 (s : State) : Result := terminating .black 48 s

/-- `BT49`: a black run grows by 49 and ends (R186, R110). -/
def execBt49 (s : State) : Result := terminating .black 49 s

/-- `BT50`: a black run grows by 50 and ends (R186, R110). -/
def execBt50 (s : State) : Result := terminating .black 50 s

/-- `BT51`: a black run grows by 51 and ends (R186, R110). -/
def execBt51 (s : State) : Result := terminating .black 51 s

/-- `BT52`: a black run grows by 52 and ends (R186, R110). -/
def execBt52 (s : State) : Result := terminating .black 52 s

/-- `BT53`: a black run grows by 53 and ends (R186, R110). -/
def execBt53 (s : State) : Result := terminating .black 53 s

/-- `BT54`: a black run grows by 54 and ends (R186, R110). -/
def execBt54 (s : State) : Result := terminating .black 54 s

/-- `BT55`: a black run grows by 55 and ends (R186, R110). -/
def execBt55 (s : State) : Result := terminating .black 55 s

/-- `BT56`: a black run grows by 56 and ends (R186, R110). -/
def execBt56 (s : State) : Result := terminating .black 56 s

/-- `BT57`: a black run grows by 57 and ends (R186, R110). -/
def execBt57 (s : State) : Result := terminating .black 57 s

/-- `BT58`: a black run grows by 58 and ends (R186, R110). -/
def execBt58 (s : State) : Result := terminating .black 58 s

/-- `BT59`: a black run grows by 59 and ends (R186, R110). -/
def execBt59 (s : State) : Result := terminating .black 59 s

/-- `BT60`: a black run grows by 60 and ends (R186, R110). -/
def execBt60 (s : State) : Result := terminating .black 60 s

/-- `BT61`: a black run grows by 61 and ends (R186, R110). -/
def execBt61 (s : State) : Result := terminating .black 61 s

/-- `BT62`: a black run grows by 62 and ends (R186, R110). -/
def execBt62 (s : State) : Result := terminating .black 62 s

/-- `BT63`: a black run grows by 63 and ends (R186, R110). -/
def execBt63 (s : State) : Result := terminating .black 63 s

/-- `BM64`: a black run grows by 64 (R187, R111). -/
def execBm64 (s : State) : Result := makeup .black 64 s

/-- `BM128`: a black run grows by 128 (R187, R111). -/
def execBm128 (s : State) : Result := makeup .black 128 s

/-- `BM192`: a black run grows by 192 (R187, R111). -/
def execBm192 (s : State) : Result := makeup .black 192 s

/-- `BM256`: a black run grows by 256 (R187, R111). -/
def execBm256 (s : State) : Result := makeup .black 256 s

/-- `BM320`: a black run grows by 320 (R187, R111). -/
def execBm320 (s : State) : Result := makeup .black 320 s

/-- `BM384`: a black run grows by 384 (R187, R111). -/
def execBm384 (s : State) : Result := makeup .black 384 s

/-- `BM448`: a black run grows by 448 (R187, R111). -/
def execBm448 (s : State) : Result := makeup .black 448 s

/-- `BM512`: a black run grows by 512 (R187, R111). -/
def execBm512 (s : State) : Result := makeup .black 512 s

/-- `BM576`: a black run grows by 576 (R187, R111). -/
def execBm576 (s : State) : Result := makeup .black 576 s

/-- `BM640`: a black run grows by 640 (R187, R111). -/
def execBm640 (s : State) : Result := makeup .black 640 s

/-- `BM704`: a black run grows by 704 (R187, R111). -/
def execBm704 (s : State) : Result := makeup .black 704 s

/-- `BM768`: a black run grows by 768 (R187, R111). -/
def execBm768 (s : State) : Result := makeup .black 768 s

/-- `BM832`: a black run grows by 832 (R187, R111). -/
def execBm832 (s : State) : Result := makeup .black 832 s

/-- `BM896`: a black run grows by 896 (R187, R111). -/
def execBm896 (s : State) : Result := makeup .black 896 s

/-- `BM960`: a black run grows by 960 (R187, R111). -/
def execBm960 (s : State) : Result := makeup .black 960 s

/-- `BM1024`: a black run grows by 1024 (R187, R111). -/
def execBm1024 (s : State) : Result := makeup .black 1024 s

/-- `BM1088`: a black run grows by 1088 (R187, R111). -/
def execBm1088 (s : State) : Result := makeup .black 1088 s

/-- `BM1152`: a black run grows by 1152 (R187, R111). -/
def execBm1152 (s : State) : Result := makeup .black 1152 s

/-- `BM1216`: a black run grows by 1216 (R187, R111). -/
def execBm1216 (s : State) : Result := makeup .black 1216 s

/-- `BM1280`: a black run grows by 1280 (R187, R111). -/
def execBm1280 (s : State) : Result := makeup .black 1280 s

/-- `BM1344`: a black run grows by 1344 (R187, R111). -/
def execBm1344 (s : State) : Result := makeup .black 1344 s

/-- `BM1408`: a black run grows by 1408 (R187, R111). -/
def execBm1408 (s : State) : Result := makeup .black 1408 s

/-- `BM1472`: a black run grows by 1472 (R187, R111). -/
def execBm1472 (s : State) : Result := makeup .black 1472 s

/-- `BM1536`: a black run grows by 1536 (R187, R111). -/
def execBm1536 (s : State) : Result := makeup .black 1536 s

/-- `BM1600`: a black run grows by 1600 (R187, R111). -/
def execBm1600 (s : State) : Result := makeup .black 1600 s

/-- `BM1664`: a black run grows by 1664 (R187, R111). -/
def execBm1664 (s : State) : Result := makeup .black 1664 s

/-- `BM1728`: a black run grows by 1728 (R187, R111). -/
def execBm1728 (s : State) : Result := makeup .black 1728 s

end Sys2Proof.Machine
end

