-- ==== Sys2Proof/Machine/Extended.lean ====
section
/-!
DEFINITION. The meanings of the extended makeup code words, one definition for each, over the shared operation
of Machine/Runs.lean (41_run_codes.md R188).
-/

namespace Sys2Proof.Machine

/-- `XM1792`: a run of either colour grows by 1792 (R188, R112). -/
def execXm1792 (s : State) : Result := extendedMakeup 1792 s

/-- `XM1856`: a run of either colour grows by 1856 (R188, R112). -/
def execXm1856 (s : State) : Result := extendedMakeup 1856 s

/-- `XM1920`: a run of either colour grows by 1920 (R188, R112). -/
def execXm1920 (s : State) : Result := extendedMakeup 1920 s

/-- `XM1984`: a run of either colour grows by 1984 (R188, R112). -/
def execXm1984 (s : State) : Result := extendedMakeup 1984 s

/-- `XM2048`: a run of either colour grows by 2048 (R188, R112). -/
def execXm2048 (s : State) : Result := extendedMakeup 2048 s

/-- `XM2112`: a run of either colour grows by 2112 (R188, R112). -/
def execXm2112 (s : State) : Result := extendedMakeup 2112 s

/-- `XM2176`: a run of either colour grows by 2176 (R188, R112). -/
def execXm2176 (s : State) : Result := extendedMakeup 2176 s

/-- `XM2240`: a run of either colour grows by 2240 (R188, R112). -/
def execXm2240 (s : State) : Result := extendedMakeup 2240 s

/-- `XM2304`: a run of either colour grows by 2304 (R188, R112). -/
def execXm2304 (s : State) : Result := extendedMakeup 2304 s

/-- `XM2368`: a run of either colour grows by 2368 (R188, R112). -/
def execXm2368 (s : State) : Result := extendedMakeup 2368 s

/-- `XM2432`: a run of either colour grows by 2432 (R188, R112). -/
def execXm2432 (s : State) : Result := extendedMakeup 2432 s

/-- `XM2496`: a run of either colour grows by 2496 (R188, R112). -/
def execXm2496 (s : State) : Result := extendedMakeup 2496 s

/-- `XM2560`: a run of either colour grows by 2560 (R188, R112). -/
def execXm2560 (s : State) : Result := extendedMakeup 2560 s

end Sys2Proof.Machine
end

