-- ==== Sys2Proof/Machine/Framing.lean ====
section
/-!
DEFINITION. The framing of a row: what every `ROW_START` does first, and the meanings of `EOL`, `TAG0` and
`TAG1`. The framing of mixed rows is the spec's literal reading, which its source calls unverified
(93_implementation_defined.md U1; assumption 17).
-/

namespace Sys2Proof.Machine

/-- The first part of the `ROW_START` step: `a0 <- -1`, `color <- white`, `cur <- []`, and `FLUSH` where rows
are byte aligned (43_rows_and_raster.md R251). -/
def State.beginRow (s : State) : State :=
  { s with
    a0 := -1
    color := .white
    cur := []
    rd := if s.fill then s.rd.flush else s.rd
    tot := 0
    r1 := none }

/-- `EOL`: the marker has been read and the row's tag bit is due (43_rows_and_raster.md R252). -/
def execEol (s : State) : Result :=
  if s.stage = .rowStart ∧ s.mixed = true ∧ s.eolSeen = false then .next { s with eolSeen := true }
  else .refused .outOfContext

/-- `TAG0`: the row is coded two-dimensionally (43_rows_and_raster.md R253). -/
def execTag0 (s : State) : Result :=
  if s.stage = .rowStart ∧ s.mixed = true ∧ s.eolSeen = true then
    .next { s with stage := .readMode, eolSeen := false }
  else .refused .outOfContext

/-- `TAG1`: the row is coded one-dimensionally; `a0 <- 0` (43_rows_and_raster.md R253, R255). -/
def execTag1 (s : State) : Result :=
  if s.stage = .rowStart ∧ s.mixed = true ∧ s.eolSeen = true then
    .next { s with stage := .oneD, a0 := 0, eolSeen := false }
  else .refused .outOfContext

end Sys2Proof.Machine
end

