-- ==== Sys2Proof/Machine/Modes.lean ====
section
/-!
DEFINITION. The meanings of the nine mode code words (42_mode_codes.md). A mode code acts in two steps: in
`READ_MODE` it latches `b1`, `b2` and what it decoded (R212); in `PASS` and `VERT` it does its action (R218,
R220). The action of `H` is its two runs, whose words follow in the stream (R219).
-/

namespace Sys2Proof.Machine

/-- The latch of `b1` and `b2` at the start of a `READ_MODE` step (42_mode_codes.md R210, R212). -/
def State.latchB (s : State) : State :=
  { s with b1 := (findB s.width s.ref s.a0 s.color).1, b2 := (findB s.width s.ref s.a0 s.color).2 }

/-- The `PASS` step (42_mode_codes.md R218): `a0 <- b2`, the stall guard, the next state. Where
it raises, `a0` keeps its value from before the step (DESIGN CHOICE, assumption 25). -/
def State.passAction (s : State) : State :=
  if stalled s.a0 s.b2 then s.raiseData .stall
  else { s with a0 := s.b2, stage := nextStage s.width s.b2 }

/-- The `VERT` step for an offset (42_mode_codes.md R220). Where `a1 < a0` both sub-causes apply. -/
def State.vertAction (s : State) (o : Offset) : State :=
  let a1 := s.b1 + offsetValue o
  if a1 < s.a0 then s.raiseEither .verticalRange .stall
  else if s.width < a1 then s.raiseData .verticalRange
  else if stalled s.a0 a1 then s.raiseData .stall
  else
    match record s.width s.cur a1 with
    | none => s.raiseData .nonMonotonic
    | some c => { s.flipColor with cur := c, a0 := a1, stage := nextStage s.width a1 }

/-- A vertical mode code: `READ_MODE` latches its offset in `k` (R212), `VERT` acts with it (R220). -/
def vertical (o : Offset) (s : State) : Result :=
  match s.stage with
  | .readMode => .next { s.latchB with k := o, stage := .vert }
  | .vert => .next (s.vertAction o)
  | _ => .refused .outOfContext

/-- `V0`: vertical with `k = 0` (42_mode_codes.md R221). -/
def execV0 (s : State) : Result := vertical .zero s

/-- `VR1`: vertical with `k = +1` (42_mode_codes.md R222). -/
def execVr1 (s : State) : Result := vertical .right1 s

/-- `VR2`: vertical with `k = +2` (42_mode_codes.md R223). -/
def execVr2 (s : State) : Result := vertical .right2 s

/-- `VR3`: vertical with `k = +3` (42_mode_codes.md R224). -/
def execVr3 (s : State) : Result := vertical .right3 s

/-- `VL1`: vertical with `k = -1` (42_mode_codes.md R225). -/
def execVl1 (s : State) : Result := vertical .left1 s

/-- `VL2`: vertical with `k = -2` (42_mode_codes.md R226). -/
def execVl2 (s : State) : Result := vertical .left2 s

/-- `VL3`: vertical with `k = -3` (42_mode_codes.md R227). -/
def execVl3 (s : State) : Result := vertical .left3 s

/-- `P`: Pass (42_mode_codes.md R212, R218). -/
def execP (s : State) : Result :=
  match s.stage with
  | .readMode => .next { s.latchB with stage := .pass }
  | .pass => .next s.passAction
  | _ => .refused .outOfContext

/-- `H`: Horizontal (42_mode_codes.md R212, R219): its two runs are read in `HORIZ`, the first of the current
colour; the word that ends the second completes the step (`State.finishHorizontal`). -/
def execH (s : State) : Result :=
  match s.stage with
  | .readMode => .next { s.latchB with stage := .horiz, tot := 0, r1 := none }
  | _ => .refused .outOfContext

end Sys2Proof.Machine
end

