-- ==== Sys2Proof/Machine/Reader.lean ====
section
/-!
DEFINITION. The meanings of the BitCursor's commands on a standalone cursor (40_bitcursor.md). A command that
raises changes no state but for the answer its owner gets (R156; assumption 12).
-/

namespace Sys2Proof.Machine

/-- `READBITS n` issued by the owner of a standalone cursor (40_bitcursor.md R142, R156). -/
def readCommand (n : Int) (s : State) : Result :=
  if s.stage = .idle then
    match s.rd.readBits s.src s.srcLen n with
    | .value v c => .next ({ s with rd := c }.respond (.value v))
    | .error k => .next (s.respond (.error k))
    | .absent => .fault .absentByte
  else .refused .callInProgress

/-- `READBITS 1` (40_bitcursor.md R143, R144). -/
def execReadBits1 (s : State) : Result := readCommand 1 s

/-- `READBITS 2` (40_bitcursor.md R143, R144). -/
def execReadBits2 (s : State) : Result := readCommand 2 s

/-- `READBITS 3` (40_bitcursor.md R143, R144). -/
def execReadBits3 (s : State) : Result := readCommand 3 s

/-- `READBITS 4` (40_bitcursor.md R143, R144). -/
def execReadBits4 (s : State) : Result := readCommand 4 s

/-- `READBITS 5` (40_bitcursor.md R143, R144). -/
def execReadBits5 (s : State) : Result := readCommand 5 s

/-- `READBITS 6` (40_bitcursor.md R143, R144). -/
def execReadBits6 (s : State) : Result := readCommand 6 s

/-- `READBITS 7` (40_bitcursor.md R143, R144). -/
def execReadBits7 (s : State) : Result := readCommand 7 s

/-- `READBITS 8` (40_bitcursor.md R146). -/
def execReadBits8 (s : State) : Result := readCommand 8 s

/-- `READBITS 16` (40_bitcursor.md R145). -/
def execReadBits16 (s : State) : Result := readCommand 16 s

/-- `READBITS 24` (40_bitcursor.md R145). -/
def execReadBits24 (s : State) : Result := readCommand 24 s

/-- `READBITS 32` (40_bitcursor.md R145). -/
def execReadBits32 (s : State) : Result := readCommand 32 s

/-- `FLUSH`: the pending sub-byte bits are dropped (40_bitcursor.md R148). -/
def execFlush (s : State) : Result :=
  if s.stage = .idle then .next ({ s with rd := s.rd.flush }.respond .ok) else .refused .callInProgress

/-- `BYTESREAD`: the count of consumed source bytes is returned (40_bitcursor.md R149). -/
def execBytesRead (s : State) : Result :=
  if s.stage = .idle then .next (s.respond (.value s.rd.bytesRead)) else .refused .callInProgress

end Sys2Proof.Machine
end

