-- ==== Sys2Proof/Machine/White.lean ====
section
/-!
DEFINITION. The meanings of the white run code words, one definition for each, over the shared operations of
Machine/Runs.lean (41_run_codes.md R184, R185).
-/

namespace Sys2Proof.Machine

/-- `WT0`: a white run grows by 0 and ends (R184, R108). -/
def execWt0 (s : State) : Result := terminating .white 0 s

/-- `WT1`: a white run grows by 1 and ends (R184, R108). -/
def execWt1 (s : State) : Result := terminating .white 1 s

/-- `WT2`: a white run grows by 2 and ends (R184, R108). -/
def execWt2 (s : State) : Result := terminating .white 2 s

/-- `WT3`: a white run grows by 3 and ends (R184, R108). -/
def execWt3 (s : State) : Result := terminating .white 3 s

/-- `WT4`: a white run grows by 4 and ends (R184, R108). -/
def execWt4 (s : State) : Result := terminating .white 4 s

/-- `WT5`: a white run grows by 5 and ends (R184, R108). -/
def execWt5 (s : State) : Result := terminating .white 5 s

/-- `WT6`: a white run grows by 6 and ends (R184, R108). -/
def execWt6 (s : State) : Result := terminating .white 6 s

/-- `WT7`: a white run grows by 7 and ends (R184, R108). -/
def execWt7 (s : State) : Result := terminating .white 7 s

/-- `WT8`: a white run grows by 8 and ends (R184, R108). -/
def execWt8 (s : State) : Result := terminating .white 8 s

/-- `WT9`: a white run grows by 9 and ends (R184, R108). -/
def execWt9 (s : State) : Result := terminating .white 9 s

/-- `WT10`: a white run grows by 10 and ends (R184, R108). -/
def execWt10 (s : State) : Result := terminating .white 10 s

/-- `WT11`: a white run grows by 11 and ends (R184, R108). -/
def execWt11 (s : State) : Result := terminating .white 11 s

/-- `WT12`: a white run grows by 12 and ends (R184, R108). -/
def execWt12 (s : State) : Result := terminating .white 12 s

/-- `WT13`: a white run grows by 13 and ends (R184, R108). -/
def execWt13 (s : State) : Result := terminating .white 13 s

/-- `WT14`: a white run grows by 14 and ends (R184, R108). -/
def execWt14 (s : State) : Result := terminating .white 14 s

/-- `WT15`: a white run grows by 15 and ends (R184, R108). -/
def execWt15 (s : State) : Result := terminating .white 15 s

/-- `WT16`: a white run grows by 16 and ends (R184, R108). -/
def execWt16 (s : State) : Result := terminating .white 16 s

/-- `WT17`: a white run grows by 17 and ends (R184, R108). -/
def execWt17 (s : State) : Result := terminating .white 17 s

/-- `WT18`: a white run grows by 18 and ends (R184, R108). -/
def execWt18 (s : State) : Result := terminating .white 18 s

/-- `WT19`: a white run grows by 19 and ends (R184, R108). -/
def execWt19 (s : State) : Result := terminating .white 19 s

/-- `WT20`: a white run grows by 20 and ends (R184, R108). -/
def execWt20 (s : State) : Result := terminating .white 20 s

/-- `WT21`: a white run grows by 21 and ends (R184, R108). -/
def execWt21 (s : State) : Result := terminating .white 21 s

/-- `WT22`: a white run grows by 22 and ends (R184, R108). -/
def execWt22 (s : State) : Result := terminating .white 22 s

/-- `WT23`: a white run grows by 23 and ends (R184, R108). -/
def execWt23 (s : State) : Result := terminating .white 23 s

/-- `WT24`: a white run grows by 24 and ends (R184, R108). -/
def execWt24 (s : State) : Result := terminating .white 24 s

/-- `WT25`: a white run grows by 25 and ends (R184, R108). -/
def execWt25 (s : State) : Result := terminating .white 25 s

/-- `WT26`: a white run grows by 26 and ends (R184, R108). -/
def execWt26 (s : State) : Result := terminating .white 26 s

/-- `WT27`: a white run grows by 27 and ends (R184, R108). -/
def execWt27 (s : State) : Result := terminating .white 27 s

/-- `WT28`: a white run grows by 28 and ends (R184, R108). -/
def execWt28 (s : State) : Result := terminating .white 28 s

/-- `WT29`: a white run grows by 29 and ends (R184, R108). -/
def execWt29 (s : State) : Result := terminating .white 29 s

/-- `WT30`: a white run grows by 30 and ends (R184, R108). -/
def execWt30 (s : State) : Result := terminating .white 30 s

/-- `WT31`: a white run grows by 31 and ends (R184, R108). -/
def execWt31 (s : State) : Result := terminating .white 31 s

/-- `WT32`: a white run grows by 32 and ends (R184, R108). -/
def execWt32 (s : State) : Result := terminating .white 32 s

/-- `WT33`: a white run grows by 33 and ends (R184, R108). -/
def execWt33 (s : State) : Result := terminating .white 33 s

/-- `WT34`: a white run grows by 34 and ends (R184, R108). -/
def execWt34 (s : State) : Result := terminating .white 34 s

/-- `WT35`: a white run grows by 35 and ends (R184, R108). -/
def execWt35 (s : State) : Result := terminating .white 35 s

/-- `WT36`: a white run grows by 36 and ends (R184, R108). -/
def execWt36 (s : State) : Result := terminating .white 36 s

/-- `WT37`: a white run grows by 37 and ends (R184, R108). -/
def execWt37 (s : State) : Result := terminating .white 37 s

/-- `WT38`: a white run grows by 38 and ends (R184, R108). -/
def execWt38 (s : State) : Result := terminating .white 38 s

/-- `WT39`: a white run grows by 39 and ends (R184, R108). -/
def execWt39 (s : State) : Result := terminating .white 39 s

/-- `WT40`: a white run grows by 40 and ends (R184, R108). -/
def execWt40 (s : State) : Result := terminating .white 40 s

/-- `WT41`: a white run grows by 41 and ends (R184, R108). -/
def execWt41 (s : State) : Result := terminating .white 41 s

/-- `WT42`: a white run grows by 42 and ends (R184, R108). -/
def execWt42 (s : State) : Result := terminating .white 42 s

/-- `WT43`: a white run grows by 43 and ends (R184, R108). -/
def execWt43 (s : State) : Result := terminating .white 43 s

/-- `WT44`: a white run grows by 44 and ends (R184, R108). -/
def execWt44 (s : State) : Result := terminating .white 44 s

/-- `WT45`: a white run grows by 45 and ends (R184, R108). -/
def execWt45 (s : State) : Result := terminating .white 45 s

/-- `WT46`: a white run grows by 46 and ends (R184, R108). -/
def execWt46 (s : State) : Result := terminating .white 46 s

/-- `WT47`: a white run grows by 47 and ends (R184, R108). -/
def execWt47 (s : State) : Result := terminating .white 47 s

/-- `WT48`: a white run grows by 48 and ends (R184, R108). -/
def execWt48 (s : State) : Result := terminating .white 48 s

/-- `WT49`: a white run grows by 49 and ends (R184, R108). -/
def execWt49 (s : State) : Result := terminating .white 49 s

/-- `WT50`: a white run grows by 50 and ends (R184, R108). -/
def execWt50 (s : State) : Result := terminating .white 50 s

/-- `WT51`: a white run grows by 51 and ends (R184, R108). -/
def execWt51 (s : State) : Result := terminating .white 51 s

/-- `WT52`: a white run grows by 52 and ends (R184, R108). -/
def execWt52 (s : State) : Result := terminating .white 52 s

/-- `WT53`: a white run grows by 53 and ends (R184, R108). -/
def execWt53 (s : State) : Result := terminating .white 53 s

/-- `WT54`: a white run grows by 54 and ends (R184, R108). -/
def execWt54 (s : State) : Result := terminating .white 54 s

/-- `WT55`: a white run grows by 55 and ends (R184, R108). -/
def execWt55 (s : State) : Result := terminating .white 55 s

/-- `WT56`: a white run grows by 56 and ends (R184, R108). -/
def execWt56 (s : State) : Result := terminating .white 56 s

/-- `WT57`: a white run grows by 57 and ends (R184, R108). -/
def execWt57 (s : State) : Result := terminating .white 57 s

/-- `WT58`: a white run grows by 58 and ends (R184, R108). -/
def execWt58 (s : State) : Result := terminating .white 58 s

/-- `WT59`: a white run grows by 59 and ends (R184, R108). -/
def execWt59 (s : State) : Result := terminating .white 59 s

/-- `WT60`: a white run grows by 60 and ends (R184, R108). -/
def execWt60 (s : State) : Result := terminating .white 60 s

/-- `WT61`: a white run grows by 61 and ends (R184, R108). -/
def execWt61 (s : State) : Result := terminating .white 61 s

/-- `WT62`: a white run grows by 62 and ends (R184, R108). -/
def execWt62 (s : State) : Result := terminating .white 62 s

/-- `WT63`: a white run grows by 63 and ends (R184, R108). -/
def execWt63 (s : State) : Result := terminating .white 63 s

/-- `WM64`: a white run grows by 64 (R185, R109). -/
def execWm64 (s : State) : Result := makeup .white 64 s

/-- `WM128`: a white run grows by 128 (R185, R109). -/
def execWm128 (s : State) : Result := makeup .white 128 s

/-- `WM192`: a white run grows by 192 (R185, R109). -/
def execWm192 (s : State) : Result := makeup .white 192 s

/-- `WM256`: a white run grows by 256 (R185, R109). -/
def execWm256 (s : State) : Result := makeup .white 256 s

/-- `WM320`: a white run grows by 320 (R185, R109). -/
def execWm320 (s : State) : Result := makeup .white 320 s

/-- `WM384`: a white run grows by 384 (R185, R109). -/
def execWm384 (s : State) : Result := makeup .white 384 s

/-- `WM448`: a white run grows by 448 (R185, R109). -/
def execWm448 (s : State) : Result := makeup .white 448 s

/-- `WM512`: a white run grows by 512 (R185, R109). -/
def execWm512 (s : State) : Result := makeup .white 512 s

/-- `WM576`: a white run grows by 576 (R185, R109). -/
def execWm576 (s : State) : Result := makeup .white 576 s

/-- `WM640`: a white run grows by 640 (R185, R109). -/
def execWm640 (s : State) : Result := makeup .white 640 s

/-- `WM704`: a white run grows by 704 (R185, R109). -/
def execWm704 (s : State) : Result := makeup .white 704 s

/-- `WM768`: a white run grows by 768 (R185, R109). -/
def execWm768 (s : State) : Result := makeup .white 768 s

/-- `WM832`: a white run grows by 832 (R185, R109). -/
def execWm832 (s : State) : Result := makeup .white 832 s

/-- `WM896`: a white run grows by 896 (R185, R109). -/
def execWm896 (s : State) : Result := makeup .white 896 s

/-- `WM960`: a white run grows by 960 (R185, R109). -/
def execWm960 (s : State) : Result := makeup .white 960 s

/-- `WM1024`: a white run grows by 1024 (R185, R109). -/
def execWm1024 (s : State) : Result := makeup .white 1024 s

/-- `WM1088`: a white run grows by 1088 (R185, R109). -/
def execWm1088 (s : State) : Result := makeup .white 1088 s

/-- `WM1152`: a white run grows by 1152 (R185, R109). -/
def execWm1152 (s : State) : Result := makeup .white 1152 s

/-- `WM1216`: a white run grows by 1216 (R185, R109). -/
def execWm1216 (s : State) : Result := makeup .white 1216 s

/-- `WM1280`: a white run grows by 1280 (R185, R109). -/
def execWm1280 (s : State) : Result := makeup .white 1280 s

/-- `WM1344`: a white run grows by 1344 (R185, R109). -/
def execWm1344 (s : State) : Result := makeup .white 1344 s

/-- `WM1408`: a white run grows by 1408 (R185, R109). -/
def execWm1408 (s : State) : Result := makeup .white 1408 s

/-- `WM1472`: a white run grows by 1472 (R185, R109). -/
def execWm1472 (s : State) : Result := makeup .white 1472 s

/-- `WM1536`: a white run grows by 1536 (R185, R109). -/
def execWm1536 (s : State) : Result := makeup .white 1536 s

/-- `WM1600`: a white run grows by 1600 (R185, R109). -/
def execWm1600 (s : State) : Result := makeup .white 1600 s

/-- `WM1664`: a white run grows by 1664 (R185, R109). -/
def execWm1664 (s : State) : Result := makeup .white 1664 s

/-- `WM1728`: a white run grows by 1728 (R185, R109). -/
def execWm1728 (s : State) : Result := makeup .white 1728 s

end Sys2Proof.Machine
end

