-- ==== Sys2Proof/Machine/Writer.lean ====
section
/-!
DEFINITION. The meanings of the BitWriter's commands on a standalone writer (40_bitcursor.md R151 to R155). A
command that raises changes no state but for the answer its owner gets (R156; assumption 12).
-/

namespace Sys2Proof.Machine

/-- `WRITEBITS n v` issued by the owner of a standalone writer (40_bitcursor.md R152, R154, R156). -/
def writeCommand (n v : Int) (s : State) : Result :=
  if s.stage = .idle then
    match s.wr.writeBits n v with
    | .ok w => .next ({ s with wr := w }.respond .ok)
    | .error k => .next (s.respond (.error k))
  else .refused .callInProgress

/-- `WRITEBITS 1 v` (40_bitcursor.md R152). -/
def execWriteBits1 (v : Int) (s : State) : Result := writeCommand 1 v s

/-- `WRITEBITS 2 v` (40_bitcursor.md R152). -/
def execWriteBits2 (v : Int) (s : State) : Result := writeCommand 2 v s

/-- `WRITEBITS 3 v` (40_bitcursor.md R152). -/
def execWriteBits3 (v : Int) (s : State) : Result := writeCommand 3 v s

/-- `WRITEBITS 4 v` (40_bitcursor.md R152). -/
def execWriteBits4 (v : Int) (s : State) : Result := writeCommand 4 v s

/-- `WRITEBITS 5 v` (40_bitcursor.md R152). -/
def execWriteBits5 (v : Int) (s : State) : Result := writeCommand 5 v s

/-- `WRITEBITS 6 v` (40_bitcursor.md R152). -/
def execWriteBits6 (v : Int) (s : State) : Result := writeCommand 6 v s

/-- `WRITEBITS 7 v` (40_bitcursor.md R152). -/
def execWriteBits7 (v : Int) (s : State) : Result := writeCommand 7 v s

/-- `WRITEBITS 8 v` (40_bitcursor.md R154). -/
def execWriteBits8 (v : Int) (s : State) : Result := writeCommand 8 v s

/-- `WRITEBITS 16 v` (40_bitcursor.md R154). -/
def execWriteBits16 (v : Int) (s : State) : Result := writeCommand 16 v s

/-- `WRITEBITS 24 v` (40_bitcursor.md R154). -/
def execWriteBits24 (v : Int) (s : State) : Result := writeCommand 24 v s

/-- `WRITEBITS 32 v` (40_bitcursor.md R154). -/
def execWriteBits32 (v : Int) (s : State) : Result := writeCommand 32 v s

/-- `PAD`: a partially filled byte is completed with fill bits (40_bitcursor.md R155). -/
def execPad (s : State) : Result :=
  if s.stage = .idle then .next ({ s with wr := s.wr.pad }.respond .ok) else .refused .callInProgress

end Sys2Proof.Machine
end

