-- ==== Sys2Proof/Machine/Raster.lean ====
section
/-!
DEFINITION. The raster assembler: from a line of changing elements to packed pixels and back
(43_rows_and_raster.md R260, R264; 20_memory.md R65).
-/

namespace Sys2Proof.Machine

/-- Set the pixel of column `x`: `out[x div 8] <- out[x div 8] | (0x80 >> (x mod 8))`
(43_rows_and_raster.md R260). -/
def paintPixel (out : List Byte) (x : Nat) : List Byte := out.modify (x / 8) (fun b => b ||| (0x80#8 >>> (x % 8)))

/-- Set the pixels of columns `p .. e-1`. -/
def paintRun (out : List Byte) (p e : Nat) : List Byte := (List.range' p (e - p)).foldl paintPixel out

/-- The walk over the elements, the sentinel among them, from column `p` on with colour `c`
(43_rows_and_raster.md R260). -/
def assemble : List Int → Color → Nat → List Byte → List Byte
  | [], _, _, out => out
  | e :: rest, c, p, out =>
    assemble rest (opp c) e.toNat (if c = .black then paintRun out p e.toNat else out)

/-- `fromChangingElements(L, W)` (43_rows_and_raster.md R260). -/
def fromChangingElements (line : List Int) (width : Int) : List Byte :=
  assemble (line ++ [width]) .white 0 (List.replicate (rowBytes width) 0)

/-- The pixel of column `x` of a packed row, `true` for black:
`(B[x div 8] >> (7 - (x mod 8))) & 1` (43_rows_and_raster.md R264). -/
def packedPixel (row : List Byte) (x : Nat) : Bool := (row.getD (x / 8) 0).getLsbD (7 - x % 8)

/-- The scan over columns, with the previous pixel (43_rows_and_raster.md R264). -/
def scanRow (row : List Byte) : List Nat → Bool → List Int
  | [], _ => []
  | x :: xs, prev =>
    if packedPixel row x = prev then scanRow row xs prev
    else (x : Int) :: scanRow row xs (packedPixel row x)

/-- `toChangingElements(B, W)` (43_rows_and_raster.md R264). -/
def toChangingElements (row : List Byte) (width : Int) : List Int := scanRow row (List.range width.toNat) false

end Sys2Proof.Machine
end

