-- ==== Sys2Proof/Machine/Rows.lean ====
section
/-!
DEFINITION. The steps of the decoder that run no code word: the start of a call and the end of a row.
-/

namespace Sys2Proof.Machine

/-- The registers and stores of a call at their reset values (10_state.md R45). What the host supplied stays:
the configuration, `SRC`, and what the model keeps of the host (assumption 20). -/
def State.freshCall (s : State) : State :=
  { s with
    rd := Cursor.fresh s.rd.order
    wr := BitWriter.fresh s.wr.order
    stage := .idle
    err := .none
    sub := none
    row := 0
    a0 := -1
    color := .white
    b1 := 0
    b2 := 0
    k := .zero
    ref := []
    cur := []
    tot := 0
    r1 := none
    eolSeen := false
    rowOpen := false }

/-- The START step of `decompress` (43_rows_and_raster.md R250). `RAS` is unspecified until written
(10_state.md R45). -/
def State.startDecompress (s : State) : State :=
  if legalGeometry s.width s.height then { s.freshCall with ras := [], stage := .rowStart }
  else ({ s.freshCall with ras := [] } : State).raise .invalidGeometry none

/-- The `ROW_END` step (43_rows_and_raster.md R262). -/
def State.endRow (s : State) : State :=
  { s with
    ras := s.ras.writeBytes (s.row * rowBytes s.width) (fromChangingElements s.cur s.width)
    ref := s.cur
    row := s.row + 1
    stage := if ((s.row + 1 : Nat) : Int) = s.height then .done else .rowStart }

end Sys2Proof.Machine
end

