-- ==== Sys2Proof/Machine/Encoder.lean ====
section
/-!
DEFINITION. The mirror encoder, `compress` (44_encoder.md). It fetches no code word: it reads raster rows and
emits code words. Its step is one row start, one choice of mode or one row end (assumption 14).
-/

namespace Sys2Proof.Machine

/-- What starting the encoder or loading a row answers. -/
inductive EncodeOut where
  | state (s : State) | fault (f : Fault) | refused (r : Refusal)
  deriving DecidableEq, Repr

/-- The start of `compress` (44_encoder.md R290): the geometry test, then the raster's length, which must be
exactly `HEIGHT * ROWBYTES`; a raster of another length is outside the specified domain and refused
(assumption 13). -/
def State.startCompress (s : State) : EncodeOut :=
  if legalGeometry s.width s.height then
    if s.ras.holdsExactly (s.height.toNat * rowBytes s.width) then .state { s.freshCall with stage := .busy }
    else .refused .rasterLength
  else .state (s.freshCall.raise .invalidGeometry none)

/-- The bytes of the current row of `RAS` (44_encoder.md R291). -/
def State.rasterRow (s : State) : Option (List Byte) :=
  s.ras.readBytes (s.row * rowBytes s.width) (rowBytes s.width)

/-- The start of a row: `cur` is loaded from the raster, `a0 <- -1`, `color <- white` (44_encoder.md R291). -/
def State.loadRow (s : State) : EncodeOut :=
  match s.rasterRow with
  | some bytes =>
    .state { s with cur := toChangingElements bytes s.width, a0 := -1, color := .white, rowOpen := true }
  | none => .fault .absentByte

/-- Emit code words (44_encoder.md R294 to R297, 40_bitcursor.md R158). -/
def State.emitWords (s : State) (words : List Instr) : State := { s with wr := s.wr.emit (encodeAll words) }

/-- The choice of mode of one `EncodeStep()`, with the positions it needs (44_encoder.md R293). -/
inductive Choice where
  | pass (b2 : Int) | vertical (o : Offset) (a1 : Int) | horizontal (a1 a2 : Int)
  deriving DecidableEq, Repr

/-- Pass where `b2 < a1`, else Vertical where `|a1 - b1| <= 3`, else Horizontal; the tests are made in this
order (44_encoder.md R293). -/
def State.choice (s : State) : Choice :=
  let b := findB s.width s.ref s.a0 s.color
  let a := findA s.width s.a0 s.cur
  if b.2 < a.1 then .pass b.2
  else
    match offsetOf (a.1 - b.1) with
    | some o => .vertical o a.1
    | none => .horizontal a.1 a.2

/-- The code words that a choice emits, for the current `a0` and `color` (44_encoder.md R294, R295, R297). The
first run of a Horizontal is measured from the start column. -/
def Choice.words (color : Color) (a0 : Int) : Choice → List Instr
  | .pass _ => [.p]
  | .vertical o _ => [offsetInstr o]
  | .horizontal a1 a2 =>
    .h :: (encodeRun color (a1 - startColumn a0).toNat ++ encodeRun (opp color) (a2 - a1).toNat)

/-- The latch of `b1` and `b2` on the encoder's side (44_encoder.md R291). -/
def State.latchEncoder (s : State) : State :=
  { s with b1 := (findB s.width s.ref s.a0 s.color).1, b2 := (findB s.width s.ref s.a0 s.color).2 }

/-- `EmitPass`, `EmitVertical`, `EmitHorizontal` after their emission: the new `a0`, and the flip of `color`
for a Vertical (44_encoder.md R294, R295, R297). -/
def State.advance (s : State) : Choice → State
  | .pass b2 => { s with a0 := b2 }
  | .vertical _ a1 => { s.flipColor with a0 := a1 }
  | .horizontal _ a2 => { s with a0 := a2 }

/-- `EncodeStep()` (44_encoder.md R293). -/
def State.encodeStep (s : State) : State :=
  (s.latchEncoder.emitWords (s.choice.words s.color s.a0)).advance s.choice

/-- The end of a row: `PAD` where rows are byte aligned, `ref <- cur`, and after the last row one more `PAD`
and `DONE` (44_encoder.md R291, R300, R301). -/
def State.endEncodedRow (s : State) : State :=
  let w := if s.fill then s.wr.pad else s.wr
  if ((s.row + 1 : Nat) : Int) = s.height then
    { s with wr := w.pad, ref := s.cur, row := s.row + 1, rowOpen := false, stage := .done }
  else { s with wr := w, ref := s.cur, row := s.row + 1, rowOpen := false }

/-- One step of the busy encoder (44_encoder.md R291; assumption 14). -/
def State.stepEncoder (s : State) : EncodeOut :=
  if s.rowOpen then
    if s.a0 < s.width then .state s.encodeStep else .state s.endEncodedRow
  else s.loadRow

end Sys2Proof.Machine
end

