-- ==== Sys2Proof/Machine/Fetch.lean ====
section
/-!
DEFINITION. What the next step is: the instruction it runs, or the transition it makes without one. One step
is one code word, one action of a latched mode, one transition that reads no code word, or one command
(43_rows_and_raster.md R270; assumption 1).
-/

namespace Sys2Proof.Machine

/-- What a step is: run an instruction at a state, go to a state, or stop. -/
inductive Fetched where
  | run (i : Instr) (s : State) | go (s : State) | fault (f : Fault) | refused (r : Refusal)
  deriving DecidableEq, Repr

/-- Fetch the code word at the bit position in a context, bit by bit (30_encoding.md R102). No matching row
raises what the context names; the end of the source inside the word raises `DecompressionError`
(40_bitcursor.md R150). A `READ_MODE` that raises keeps the `b1` and `b2` from before the step, although R212
writes them before it decodes: R329 calls the difference unobservable (DESIGN CHOICE, assumption 25). -/
def fetchWord (ctx : Context) (s : State) : Fetched :=
  match decodeWith State.nextBit ctx s with
  | .word i s' => .run i s'
  | .noRow s' => .go (s'.raiseNoRow ctx)
  | .truncated s' => .go (s'.raiseData .truncated)
  | .absent => .fault .absentByte

/-- `ROW_START` (43_rows_and_raster.md R251 to R253): the start of the row, with `EOL` where rows are framed,
and after it the tag. -/
def fetchRowStart (s : State) : Fetched :=
  if s.eolSeen then fetchWord .tag s
  else if s.mixed then fetchWord .eol s.beginRow
  else .go { s.beginRow with stage := .readMode }

/-- The next command of a standalone cursor or writer; an illegal width raises `InvalidBitCount`
(40_bitcursor.md R142, R152). -/
def fetchCommand (s : State) : Fetched :=
  match s.cmds with
  | [] => .fault .noCommand
  | c :: rest =>
    match c.instr with
    | some i => .run i { s with cmds := rest }
    | none => .go ({ s with cmds := rest }.respond (.error .invalidBitCount))

/-- What the encoder does, as a step. -/
def EncodeOut.fetched : EncodeOut → Fetched
  | .state s => .go s
  | .fault f => .fault f
  | .refused r => .refused r

/-- What an instance in `IDLE` does: the start of the call that the host has set it up for, or the next
command (43_rows_and_raster.md R250, 44_encoder.md R290, 40_bitcursor.md R140; assumption 10). -/
def fetchIdle (s : State) : Fetched :=
  match s.call with
  | .decompress => .go s.startDecompress
  | .compress => s.startCompress.fetched
  | .standalone => fetchCommand s

/-- A run code word of the colour of the run being read. -/
def fetchRun (s : State) : Fetched :=
  match s.runColor with
  | some c => fetchWord (.run c) s
  | none => .refused .outOfContext

/-- What the next step is, by `STATE` (43_rows_and_raster.md R270). In `PASS` and `VERT` the instruction is
the one that `READ_MODE` latched, which `STATE` and `k` carry (10_state.md R35). -/
def fetch (s : State) : Fetched :=
  match s.stage with
  | .idle => fetchIdle s
  | .rowStart => fetchRowStart s
  | .readMode => fetchWord .mode s
  | .pass => .run .p s
  | .vert => .run (offsetInstr s.k) s
  | .horiz => fetchRun s
  | .oneD => fetchRun s
  | .rowEnd => .go s.endRow
  | .busy => s.stepEncoder.fetched
  | .done => .fault .callDone
  | .failed => .fault .callFailed

/-- Put a context in force: the `STATE`, colour and flags under which its words are read. -/
def State.inContext (s : State) : Context → State
  | .mode => { s with stage := .readMode }
  | .run c => { s with stage := .horiz, color := c, r1 := none }
  | .eol => { s with stage := .rowStart, mixed := true, eolSeen := false }
  | .tag => { s with stage := .rowStart, mixed := true, eolSeen := true }

/-- The longest code word has 13 bits, so two bytes hold any word. -/
def longestWordBytes : Nat := 2

/-- The bytes of a table word, followed by zero bytes up to the longest word. -/
def wordBytes (nbits w : Nat) : List Byte :=
  tableBytes nbits w ++ List.replicate (longestWordBytes - (tableBytes nbits w).length) 0

/-- The context in which a bare table word is read; a word that no context reads is left to the mode table,
which rejects it or reads a shorter word of it (assumption 15). -/
def tableWordContext (nbits w : Nat) : Context := ((tableWord nbits w).map Prod.fst).getD .mode

/-- Store a table word as the stream, with a fresh cursor at its first bit, and put its context in force
(assumptions 2, 15). -/
def State.placeWord (s : State) (nbits w : Nat) : State :=
  ({ s with
      src := Memory.ofBytes (wordBytes nbits w)
      srcLen := (wordBytes nbits w).length
      rd := Cursor.fresh s.rd.order } : State).inContext (tableWordContext nbits w)

end Sys2Proof.Machine
end

