-- ==== Sys2Proof/Machine/Step.lean ====
section
/-!
DEFINITION. One step of the machine.
-/

namespace Sys2Proof.Machine

/-- One step: what `fetch` says, with `exec` for an instruction. -/
def step (s : State) : Host.Outcome State Fault Refusal :=
  match fetch s with
  | .run i s' => exec i s'
  | .go s' => .next s'
  | .fault f => .fault f
  | .refused r => .refused r

/-- The state with an opcode-table word stored as the next code word of the stream, in the context that reads
it, so that the next step fetches and runs it (assumptions 2, 15). -/
def State.withFetchWord (s : State) (nbits w : Nat) : State := s.placeWord nbits w

end Sys2Proof.Machine
end

