-- ==== Sys2Proof/Machine/HostCalls.lean ====
section
/-!
DEFINITION. The host's interactions: the states that calls and sessions start from, and what the host gets
back (60_exceptions.md R331, R343, 70_reset_and_hazards.md R360, R365).
-/

namespace Sys2Proof.Machine

/-- A `decompress` call about to start (43_rows_and_raster.md R250). -/
def State.decompressCall (src : List Byte) (width height : Int) (fill mixed : Bool) : State :=
  { State.reset with
    src := Memory.ofBytes src
    srcLen := src.length
    width := width
    height := height
    fill := fill
    mixed := mixed
    call := .decompress }

/-- A `compress` call about to start (44_encoder.md R290). -/
def State.compressCall (raster : List Byte) (width height : Int) (fill : Bool) : State :=
  { State.reset with
    ras := Memory.ofBytes raster
    width := width
    height := height
    fill := fill
    call := .compress }

/-- A standalone cursor over a buffer and a standalone writer, with the commands their owner is going to issue
(60_exceptions.md R343). -/
def State.session (src : List Byte) (order : ByteOrder) (cmds : List Command) : State :=
  { State.reset with
    src := Memory.ofBytes src
    srcLen := src.length
    rd := Cursor.fresh order
    wr := BitWriter.fresh order
    call := .standalone
    cmds := cmds }

/-- What the host observes of a call that is over: the bytes of its result, or the error kind and nothing
else (60_exceptions.md R331). -/
inductive HostView where
  | ok (bytes : Memory) | error (k : ErrKind) | nothing
  deriving DecidableEq, Repr

/-- What the host observes (60_exceptions.md R331): nothing while a call runs (20_memory.md R74). -/
def State.hostView (s : State) : HostView :=
  match s.stage with
  | .done => if s.call = .compress then .ok s.wr.sink else .ok s.ras
  | .failed => .error s.err
  | _ => .nothing

end Sys2Proof.Machine
end

