-- ==== Sys2Proof/Machine/Transition.lean ====
section
/-!
DEFINITION. The transitions of 43_rows_and_raster.md R270 as the spec cuts them: a whole Horizontal, a whole
one-dimensional run and a whole row start in one transition. `step` takes one code word at a time; the
statements relate the two (assumption 1).
-/

namespace Sys2Proof.Machine

/-- The stream bits left to read. -/
def State.bitsLeft (s : State) : Nat := s.rd.rem + 8 * (s.srcLen - s.rd.bytesRead)

/-- What `decodeRun` answers: the length and the state after the run, the state after an error, or the want of
a byte that the host owed. -/
inductive RunOut where
  | run (n : Nat) (s : State) | raised (s : State) | absent
  deriving DecidableEq, Repr

/-- The loop of `decodeRun(c)` (41_run_codes.md R183). `fuel` bounds the code words; every word takes at
least one bit, so more words than bits left cannot be read. -/
def decodeRunLoop (c : Color) : Nat → Nat → State → RunOut
  | 0, _, s => .raised (s.raiseData .truncated)
  | fuel + 1, tot, s =>
    match decodeWith State.nextBit (.run c) s with
    | .word i s' =>
      let v := (runValue i).getD 0
      if v < 64 then .run (tot + v) s' else decodeRunLoop c fuel (tot + v) s'
    | .noRow s' => .raised (s'.raiseNoRow (.run c))
    | .truncated s' => .raised (s'.raiseData .truncated)
    | .absent => .absent

/-- `decodeRun(c)` (41_run_codes.md R183). -/
def decodeRun (c : Color) (s : State) : RunOut := decodeRunLoop c (s.bitsLeft + 1) 0 s

/-- The whole `HORIZ` transition (42_mode_codes.md R219). -/
def horizTransition (s : State) : Result :=
  match decodeRun s.color s with
  | .run n1 s1 =>
    match decodeRun (opp s.color) s1 with
    | .run n2 s2 => .next (s2.finishHorizontal n1 n2)
    | .raised t => .next t
    | .absent => .fault .absentByte
  | .raised t => .next t
  | .absent => .fault .absentByte

/-- The whole `ONE_D` transition (43_rows_and_raster.md R256). -/
def oneDTransition (s : State) : Result :=
  match decodeRun s.color s with
  | .run n s1 => .next (s1.finishOneD n)
  | .raised t => .next t
  | .absent => .fault .absentByte

/-- The tag bit of a `ROW_START` transition (43_rows_and_raster.md R253, R255). -/
def tagTransition (s : State) : Result :=
  match s.nextBit with
  | .bit true s' => .next { s' with stage := .oneD, a0 := 0, eolSeen := false }
  | .bit false s' => .next { s' with stage := .readMode, eolSeen := false }
  | .endOfStream => .next (s.raiseData .truncated)
  | .absent => .fault .absentByte

/-- The whole `ROW_START` transition (43_rows_and_raster.md R251 to R253, R255). -/
def rowStartTransition (s : State) : Result :=
  if s.mixed then
    match decodeWith State.nextBit .eol s.beginRow with
    | .word _ s' => tagTransition s'
    | .noRow s' => .next (s'.raise .eolError none)
    | .truncated s' => .next (s'.raiseData .truncated)
    | .absent => .fault .absentByte
  else .next { s.beginRow with stage := .readMode }

/-- One row of the table of 43_rows_and_raster.md R270. -/
def transition (s : State) : Result :=
  match s.stage with
  | .rowStart => rowStartTransition s
  | .horiz => horizTransition s
  | .oneD => oneDTransition s
  | _ => step s

/-- The states between two transitions of R270: no code word of a longer transition has been read yet. -/
def State.atBoundary (s : State) : Prop := s.tot = 0 ∧ s.r1 = none ∧ s.eolSeen = false

end Sys2Proof.Machine
end

