-- ==== Sys2Proof/Safety.lean ====
section
/-!
DEFINITION. Well-formed states, invariants and runs, in the terms the statements use. No definition of the
machine depends on this file.
-/

namespace Sys2Proof.Machine

/-! ### Runs -/

/-- `n` steps, stopping at the first fault or refusal. -/
def run : Nat → State → Result
  | 0, s => .next s
  | n + 1, s =>
    match step s with
    | .next t => run n t
    | .fault f => .fault f
    | .refused r => .refused r

/-- The call is over: `DONE` or `FAILED` (43_rows_and_raster.md R271). -/
def State.over (s : State) : Prop := s.stage = .done ∨ s.stage = .failed

/-! ### The stream -/

/-- Every byte of `SRC` below `SRC_LEN` is there, as the host owes it (20_memory.md R60). -/
def SrcLoaded (s : State) : Prop := ∀ a, a < s.srcLen → (s.src.read a).isSome

/-- The stream bits from the bit position to the end of the source (10_state.md R22, 20_memory.md R64). -/
def State.upcoming (s : State) : Bits :=
  (List.range' s.rd.bitPos (8 * s.srcLen - s.rd.bitPos)).map (streamBit s.src)

/-- The context whose table is in force at a state, if its next step reads a code word (30_encoding.md
R101). -/
def State.context (s : State) : Option Context :=
  match s.stage with
  | .readMode => some .mode
  | .horiz => s.runColor.map .run
  | .oneD => s.runColor.map .run
  | .rowStart => if s.eolSeen then some .tag else if s.mixed then some .eol else none
  | _ => none

/-- What a step does before it reads a code word: a `ROW_START` begins its row (43_rows_and_raster.md R251). -/
def State.beforeWord (s : State) : State :=
  if s.stage = .rowStart ∧ s.eolSeen = false then s.beginRow else s

/-! ### Invariants -/

/-- The cursor invariants of 10_state.md R26 (a), (b) and (c). -/
structure CursorOk (s : State) : Prop where
  rem_small : s.rd.rem ≤ 7
  in_source : s.rd.bytesRead ≤ s.srcLen
  cached : 0 < s.rd.rem → 1 ≤ s.rd.bytesRead ∧ s.src.read (s.rd.bytesRead - 1) = some s.rd.cache

/-- The writer invariants of 10_state.md R27: `0 <= cnt <= 7`, the unwritten positions of `acc` hold 0, and
`SINK` holds exactly its `sinkLen` bytes. -/
structure WriterOk (w : BitWriter) : Prop where
  cnt_small : w.cnt ≤ 7
  unwritten_zero : ∀ j, j < 8 - w.cnt → w.acc.getLsbD j = false
  sink_dense : w.sink.holdsExactly w.sinkLen = true

/-- Every memory has its canonical form. -/
def MemoryOk (s : State) : Prop := Memory.wf s.src ∧ Memory.wf s.ras ∧ Memory.wf s.wr.sink

/-- The line invariants of 10_state.md R40 (a) and (b): elements in `[0, WIDTH - 1]`, strictly increasing. -/
def LineOk (width : Int) (line : List Int) : Prop :=
  (∀ e ∈ line, 0 ≤ e ∧ e < width) ∧ line.Pairwise (· < ·)

/-- Pixel `x` of a line is black exactly when an odd number of elements are at most `x` (10_state.md R40
(d)). -/
def linePixel (line : List Int) (x : Nat) : Bool := (line.filter (fun e => decide (e ≤ (x : Int)))).length % 2 == 1

/-- `color` as the parity it stands for: white is 0, black is 1 (10_state.md R33). -/
def colorBit : Color → Nat
  | .white => 0
  | .black => 1

/-- A call is running: a row or the framing between rows, in the decoder or the encoder. -/
def Stage.running : Stage → Bool
  | .idle | .done | .failed => false
  | .rowStart | .readMode | .pass | .horiz | .vert | .rowEnd | .oneD | .busy => true

/-- Inside a row that is not full yet, between its code words or inside one of its steps. -/
def Stage.insideRow : Stage → Bool
  | .readMode | .pass | .horiz | .vert | .oneD => true
  | .idle | .rowStart | .rowEnd | .done | .failed | .busy => false

/-- What holds of the registers and line stores while a call runs: the geometry is legal, both lines satisfy
10_state.md R40, `-1 <= a0 <= WIDTH` (R32) and `row < HEIGHT` (R31). -/
structure RowOk (s : State) : Prop where
  width_pos : 0 < s.width
  ref_line : LineOk s.width s.ref
  cur_line : LineOk s.width s.cur
  a0_low : -1 ≤ s.a0
  a0_high : s.a0 ≤ s.width
  row_low : (s.row : Int) < s.height

/-- What holds of a decoder inside a row: `a0 < WIDTH` (42_mode_codes.md R233), every recorded element is at
most `a0` (R230), and `color` is the parity of the recorded elements (10_state.md R33). -/
structure InsideOk (s : State) : Prop where
  not_full : s.a0 < s.width
  recorded : ∀ e ∈ s.cur, e ≤ s.a0
  parity : s.cur.length % 2 = colorBit s.color

/-- The state of a call is well formed (10_state.md R31 to R40, 42_mode_codes.md R211, R233). -/
structure CallOk (s : State) : Prop where
  row_ok : s.stage.running = true → RowOk s
  inside_ok : s.stage.insideRow = true → InsideOk s
  one_d_start : s.stage = .oneD → 0 ≤ s.a0
  pass_target : s.stage = .pass → s.a0 < s.b2 ∧ s.b2 ≤ s.width
  vert_base : s.stage = .vert → s.a0 < s.b1 ∧ s.b1 ≤ s.width
  row_full : s.stage = .rowEnd → s.a0 = s.width
  all_rows : s.stage = .done → (s.row : Int) = s.height
  row_begun : s.stage.running = true → s.eolSeen = true →
    s.stage = .rowStart ∧ s.a0 = -1 ∧ s.color = .white ∧ s.cur = []

/-- What `RAS` holds in a `decompress` call: while the call runs and when it is done, exactly the bytes of the rows
produced so far, `row * ROWBYTES` of them from index 0 on, the last of them the packed reference line (20_memory.md
R61, R73 (a), 43_rows_and_raster.md R262).
The busy state is that of `compress` alone (10_state.md R41). -/
structure RasOk (s : State) : Prop where
  busy_call : s.stage = .busy → s.call = .compress
  rows_held : s.call = .decompress → (s.stage.running = true ∨ s.stage = .done) →
    s.ras.holdsExactly (s.row * rowBytes s.width) = true
  last_row : s.call = .decompress → (s.stage.running = true ∨ s.stage = .done) → 0 < s.row →
    s.ras.readBytes ((s.row - 1) * rowBytes s.width) (rowBytes s.width) =
      some (fromChangingElements s.ref s.width)

/-- The error register says `None` exactly while the call has not failed (10_state.md R30, 60_exceptions.md
R329, R330). -/
def StatusOk (s : State) : Prop := s.stage = .failed ↔ s.err ≠ .none

/-- The temporaries that the model keeps between code words are empty outside the steps they belong to
(assumptions 1 and 14). -/
structure TempOk (s : State) : Prop where
  tot_zero : s.stage ≠ .horiz → s.stage ≠ .oneD → s.tot = 0
  first_run : s.stage ≠ .horiz → s.r1 = none
  tag_due : s.eolSeen = true → s.stage = .rowStart ∧ s.mixed = true
  row_open : s.rowOpen = true → s.stage = .busy

/-- The states that follow a state in the table of 43_rows_and_raster.md R270, with `busy` for the encoder
(44_encoder.md R290, R291). `ROW_START`, `HORIZ` and `ONE_D` also follow themselves, between the code words of
one transition (assumption 1), and `IDLE` follows itself between standalone commands. -/
def Stage.followers : Stage → List Stage
  | .idle => [.rowStart, .failed, .busy, .idle]
  | .rowStart => [.readMode, .oneD, .failed, .rowStart]
  | .readMode => [.pass, .horiz, .vert, .failed]
  | .pass => [.readMode, .rowEnd]
  | .horiz => [.readMode, .rowEnd, .failed, .horiz]
  | .vert => [.readMode, .rowEnd, .failed]
  | .oneD => [.oneD, .rowEnd, .failed]
  | .rowEnd => [.rowStart, .done]
  | .busy => [.busy, .done]
  | .done => []
  | .failed => []

/-- The bits that a writer holds, in stream order: those of `SINK`, then the `cnt` bits of `acc`
(40_bitcursor.md R158). -/
def BitWriter.written (w : BitWriter) : Bits :=
  (List.range (8 * w.sinkLen)).map (streamBit w.sink) ++ (List.range w.cnt).map (byteBit w.acc)

/-- The encoder inside a row is where 44_encoder.md R292 says: `color` is the parity of the elements of the
coding line at or left of `a0`. -/
def ParityOk (s : State) : Prop := (s.cur.filter (fun e => decide (e ≤ s.a0))).length % 2 = colorBit s.color

/-- The bits of a packed row beyond its columns are 0 (20_memory.md R65). -/
def PaddingZero (row : List Byte) (width : Int) : Prop :=
  ∀ x, width.toNat ≤ x → x < 8 * row.length → packedPixel row x = false

/-- Row `r` of a packed raster: its `ROWBYTES` bytes from `r * ROWBYTES` on (20_memory.md R61). -/
def packedRow (raster : List Byte) (width : Int) (r : Nat) : List Byte :=
  (raster.drop (r * rowBytes width)).take (rowBytes width)

/-- A raster of the right length whose padding bits are 0 (44_encoder.md R305). -/
def RasterOk (raster : List Byte) (width height : Int) : Prop :=
  raster.length = height.toNat * rowBytes width ∧
    ∀ r, r < height.toNat → PaddingZero (packedRow raster width r) width

end Sys2Proof.Machine
end

