-- ==== Sys2Proof/Certificates/Slice0/Obligations.lean ====
section
/-!
DEFINITION. The statements for the provers. Each cites the rules of spec/ it formalises; a statement that rests
on a choice of the model names its row of notes/assumptions/.
-/

open Sys2Proof Sys2Proof.Machine

/-! ### Encoding (30_encoding.md) -/

/-- Reading the bits of any code word in a context that recognises it, whatever follows, gives that word and
leaves what follows (30_encoding.md R100 to R102, R113 (a)). -/
def Obligations.DecodeInvertsEncode : Prop :=
  ∀ (ctx : Context) (i : Instr) (rest : Bits),
    wellFormed ctx i = true → decode ctx (encode i ++ rest) = .word i rest

/-- A word that is read belongs to the context, and exactly its bits have been consumed (30_encoding.md R102,
41_run_codes.md R181, 42_mode_codes.md R213). -/
def Obligations.DecodedWordIsEncoded : Prop :=
  ∀ (ctx : Context) (bits : Bits) (i : Instr) (rest : Bits),
    decode ctx bits = .word i rest → wellFormed ctx i = true ∧ bits = encode i ++ rest

/-- Words written out from the tables decode to the instructions they stand for, one of each class
(30_encoding.md R103, R105, R106, R108 to R112). -/
def Obligations.SampleWordsDecode : Prop :=
  decode .mode [true] = .word .v0 [] ∧
  decode .mode [false, true, false] = .word .vl1 [] ∧
  decode .mode [false, false, false, true] = .word .p [] ∧
  decode (.run .white) [false, false, true, true, false, true, false, true] = .word .wt0 [] ∧
  decode (.run .white) [true, true, false, true, true] = .word .wm64 [] ∧
  decode (.run .black) [true, true] = .word .bt2 [] ∧
  decode (.run .black) [false, false, false, false, false, false, true, true, true, true] = .word .bm64 [] ∧
  decode (.run .black) [false, false, false, false, false, false, false, true, false, false, false] = .word .xm1792 [] ∧
  decode (.run .white) [false, false, false, false, false, false, false, true, false, false, false] = .word .xm1792 [] ∧
  decode .eol (List.replicate 11 false ++ [true]) = .word .eol [] ∧
  decode .tag [true] = .word .tag1 []

/-- With enough bits, a mode code fails to decode exactly when it begins with six 0 bits, and a run code of
either colour exactly when it begins with eight 0 bits (30_encoding.md R113 (c), (e)). -/
def Obligations.UndecodableWordsByZeroBits : Prop :=
  (∀ bits : Bits, 7 ≤ bits.length →
    ((∃ rest, decode .mode bits = .noRow rest) ↔ bits.take 6 = List.replicate 6 false)) ∧
  (∀ (c : Color) (bits : Bits), maxLen (.run c) ≤ bits.length →
    ((∃ rest, decode (.run c) bits = .noRow rest) ↔ bits.take 8 = List.replicate 8 false))

/-! ### Reading the stream -/

/-- The decoder's bit read returns the stream bit at the bit position and advances the position by one; at the
end of the source it reports the end (40_bitcursor.md R150, 20_memory.md R64, 10_state.md R22). -/
def Obligations.BitReadFollowsStream : Prop :=
  ∀ s : State, CursorOk s → SrcLoaded s →
    (s.rd.bitPos < 8 * s.srcLen →
      ∃ c : Cursor, s.nextBit = .bit (streamBit s.src s.rd.bitPos) { s with rd := c } ∧
        c.bitPos = s.rd.bitPos + 1 ∧ c.order = s.rd.order ∧ CursorOk { s with rd := c }) ∧
    (8 * s.srcLen ≤ s.rd.bitPos → s.nextBit = .endOfStream)

/-- Reading a code word through the cursor gives what decoding the remaining stream bits gives, and moves the
cursor past exactly the bits that were read (30_encoding.md R102, 40_bitcursor.md R150; the position after an
undecodable word is that of the literal procedure, which is the model's choice, assumption 18). -/
def Obligations.FetchReadsUpcomingWord : Prop :=
  ∀ (ctx : Context) (s : State), CursorOk s → SrcLoaded s →
    match decode ctx s.upcoming with
    | .word i rest => ∃ c : Cursor, decodeWith State.nextBit ctx s = .word i { s with rd := c } ∧
        CursorOk { s with rd := c } ∧ ({ s with rd := c } : State).upcoming = rest ∧
        c.bitPos = s.rd.bitPos + (encode i).length
    | .noRow rest => ∃ c : Cursor, decodeWith State.nextBit ctx s = .noRow { s with rd := c } ∧
        CursorOk { s with rd := c } ∧ ({ s with rd := c } : State).upcoming = rest ∧
        c.bitPos = s.rd.bitPos + maxLen ctx
    | .truncated rest => rest = [] ∧ ∃ c : Cursor, decodeWith State.nextBit ctx s = .truncated { s with rd := c } ∧
        CursorOk { s with rd := c } ∧ c.bitPos = 8 * s.srcLen
    | .absent => False

/-- A step runs the instruction it fetches: the code word that the context in force reads, at the state just
after its bits; in `PASS` and `VERT` the latched mode; of a standalone cursor or writer the next command
(30_encoding.md R101, 43_rows_and_raster.md R270, 10_state.md R35; assumptions 1, 10). -/
def Obligations.StepRunsFetchedInstruction : Prop :=
  (∀ (s s' : State) (ctx : Context) (i : Instr), s.context = some ctx →
    decodeWith State.nextBit ctx s.beforeWord = .word i s' → step s = exec i s') ∧
  (∀ s : State, s.stage = .pass → step s = exec .p s) ∧
  (∀ s : State, s.stage = .vert → step s = exec (offsetInstr s.k) s) ∧
  (∀ (s : State) (c : Command) (rest : List Command) (i : Instr), s.stage = .idle → s.call = .standalone →
    s.cmds = c :: rest → c.instr = some i → step s = exec i { s with cmds := rest })

/-- A mode position whose bits begin with six 0 bits raises `DecompressionError` after seven bits, and so does one
whose source ends inside the code word: fewer than seven bits are left and no row of the table begins them
(30_encoding.md R116, 40_bitcursor.md R150, 43_rows_and_raster.md R263; the position after seven bits is that of the
literal procedure, assumption 18). -/
def Obligations.IllegalModeWordRaises : Prop :=
  ∀ s : State, s.stage = .readMode → CursorOk s → SrcLoaded s →
    (7 ≤ s.upcoming.length → s.upcoming.take 6 = List.replicate 6 false →
      ∃ t, step s = .next t ∧ t.stage = .failed ∧ t.err = .decompressionError ∧
        t.rd.bitPos = s.rd.bitPos + 7) ∧
    (s.upcoming.length < 7 → (∀ i ∈ tableOf .mode, ¬ encode i <+: s.upcoming) →
      ∃ t, step s = .next t ∧ t.stage = .failed ∧ t.err = .decompressionError)

/-- A run position, in `HORIZ` or `ONE_D`, whose bits begin with eight 0 bits raises `DecompressionError` after the
longest length of the colour, and so does one whose source ends inside the code word: fewer bits than the longest
length are left and no row of the table begins them (30_encoding.md R117, 40_bitcursor.md R150,
43_rows_and_raster.md R263; the position after the longest length is that of the literal procedure,
assumption 18). -/
def Obligations.IllegalRunWordRaises : Prop :=
  ∀ (s : State) (c : Color), s.runColor = some c → CursorOk s → SrcLoaded s →
    (maxLen (.run c) ≤ s.upcoming.length → s.upcoming.take 8 = List.replicate 8 false →
      ∃ t, step s = .next t ∧ t.stage = .failed ∧ t.err = .decompressionError ∧
        t.rd.bitPos = s.rd.bitPos + maxLen (.run c)) ∧
    (s.upcoming.length < maxLen (.run c) → (∀ i ∈ tableOf (.run c), ¬ encode i <+: s.upcoming) →
      ∃ t, step s = .next t ∧ t.stage = .failed ∧ t.err = .decompressionError)

/-- The framing of a row where `MIXED` is set. Exactly twelve bits are read and compared with the marker: too
few is `DecompressionError` whatever they are, others are `EOLError`, the marker is accepted; then the tag bit
selects a one-dimensional row (1) or a two-dimensional row (0) (43_rows_and_raster.md R252, R253, R255,
60_exceptions.md R333; the split in two steps is assumption 1, the framing itself assumption 17). The words'
own meanings complete in their contexts. -/
def Obligations.RowFraming : Prop :=
  (∀ s : State, s.stage = .rowStart → s.mixed = true → s.eolSeen = false → CursorOk s → SrcLoaded s →
    (s.beginRow.upcoming.length < 12 →
      ∃ t, step s = .next t ∧ t.stage = .failed ∧ t.err = .decompressionError) ∧
    (12 ≤ s.beginRow.upcoming.length → s.beginRow.upcoming.take 12 ≠ List.replicate 11 false ++ [true] →
      ∃ t, step s = .next t ∧ t.stage = .failed ∧ t.err = .eolError) ∧
    (12 ≤ s.beginRow.upcoming.length → s.beginRow.upcoming.take 12 = List.replicate 11 false ++ [true] →
      ∃ c : Cursor, c.bitPos = s.beginRow.rd.bitPos + 12 ∧
        step s = .next { s.beginRow with rd := c, eolSeen := true })) ∧
  (∀ s : State, s.stage = .rowStart → s.mixed = true → s.eolSeen = true → CursorOk s → SrcLoaded s →
    (∀ rest, s.upcoming = true :: rest →
      ∃ c : Cursor, c.bitPos = s.rd.bitPos + 1 ∧
        step s = .next { s with rd := c, stage := .oneD, a0 := 0, eolSeen := false }) ∧
    (∀ rest, s.upcoming = false :: rest →
      ∃ c : Cursor, c.bitPos = s.rd.bitPos + 1 ∧
        step s = .next { s with rd := c, stage := .readMode, eolSeen := false }) ∧
    (s.upcoming = [] → ∃ t, step s = .next t ∧ t.stage = .failed ∧ t.err = .decompressionError)) ∧
  (∀ s : State, s.stage = .rowStart → s.mixed = true → s.eolSeen = false →
    exec .eol s = .next { s with eolSeen := true }) ∧
  (∀ s : State, s.stage = .rowStart → s.mixed = true → s.eolSeen = true →
    exec .tag0 s = .next { s with stage := .readMode, eolSeen := false } ∧
    exec .tag1 s = .next { s with stage := .oneD, a0 := 0, eolSeen := false })

/-! ### BitCursor commands (40_bitcursor.md) -/

/-- `READBITS n` for `n` in 1..7 on a standalone cursor: from pending bits, through a pull, and the two errors,
which change nothing but the answer (40_bitcursor.md R143, R144, R147, R156, R157). -/
def Obligations.ReadSubByte : Prop :=
  ∀ (s : State) (n : Int) (i : Instr), (Command.readBits n).instr = some i → n < 8 → s.stage = .idle →
    (n.toNat ≤ s.rd.rem →
      exec i s = .next { s with
        rd := { s.rd with rem := s.rd.rem - n.toNat }
        resp := .value ((s.rd.cache.toNat / 2 ^ (s.rd.rem - n.toNat)) % 2 ^ n.toNat) }) ∧
    (s.rd.rem = 0 → s.rd.bytesRead < s.srcLen → ∀ b : Byte, s.src.read s.rd.bytesRead = some b →
      exec i s = .next { s with
        rd := { s.rd with cache := b, bytesRead := s.rd.bytesRead + 1, rem := 8 - n.toNat }
        resp := .value (b.toNat / 2 ^ (8 - n.toNat)) }) ∧
    (0 < s.rd.rem → s.rd.rem < n.toNat → exec i s = .next { s with resp := .error .crossByteBoundary }) ∧
    (s.rd.rem = 0 → s.srcLen ≤ s.rd.bytesRead → exec i s = .next { s with resp := .error .endOfStream })

/-- The value of a sub-byte read is the next `n` stream bits, the first one most significant (20_memory.md R64,
40_bitcursor.md R144). -/
def Obligations.SubByteValueIsStreamBits : Prop :=
  ∀ (s : State) (n : Int) (v : Nat) (c : Cursor), CursorOk s → 1 ≤ n → n ≤ 7 →
    s.rd.readBits s.src s.srcLen n = .value v c →
    v < 2 ^ n.toNat ∧
    ∀ j, j < n.toNat → v.testBit (n.toNat - 1 - j) = streamBit s.src (s.rd.bitPos + j)

/-- `READBITS 8` returns the next source byte directly; pending bits are `IncompleteBitRead`, the end of the
source is `EndOfStream`, and neither changes anything but the answer (40_bitcursor.md R146, R147, R156). -/
def Obligations.ReadByte : Prop :=
  ∀ s : State, s.stage = .idle →
    (s.rd.rem = 0 → s.rd.bytesRead < s.srcLen → ∀ b : Byte, s.src.read s.rd.bytesRead = some b →
      exec .readBits8 s = .next { s with
        rd := { s.rd with bytesRead := s.rd.bytesRead + 1 }
        resp := .value b.toNat }) ∧
    (s.rd.rem ≠ 0 → exec .readBits8 s = .next { s with resp := .error .incompleteBitRead }) ∧
    (s.rd.rem = 0 → s.srcLen ≤ s.rd.bytesRead →
      exec .readBits8 s = .next { s with resp := .error .endOfStream })

/-- `READBITS 16`, `24` and `32`: the next bytes in the byte order of the cursor; pending bits are
`IncompleteBitRead`, too few bytes are `EndOfStream` with none consumed (40_bitcursor.md R145, R147, R156,
20_memory.md R66). -/
def Obligations.ReadMultiByte : Prop :=
  ∀ (s : State) (m : Nat) (i : Instr), (m = 2 ∧ i = .readBits16 ∨ m = 3 ∧ i = .readBits24 ∨ m = 4 ∧ i = .readBits32) →
    s.stage = .idle →
    (s.rd.rem = 0 → s.rd.bytesRead + m ≤ s.srcLen → ∀ B : Nat → Byte,
      (∀ j, j < m → s.src.read (s.rd.bytesRead + j) = some (B j)) →
      exec i s = .next { s with
        rd := { s.rd with bytesRead := s.rd.bytesRead + m }
        resp := .value (match s.rd.order with
          | .le => ((List.range m).map (fun j => (B j).toNat * 256 ^ j)).sum
          | .be => ((List.range m).map (fun j => (B j).toNat * 256 ^ (m - 1 - j))).sum) }) ∧
    (s.rd.rem ≠ 0 → exec i s = .next { s with resp := .error .incompleteBitRead }) ∧
    (s.rd.rem = 0 → s.srcLen < s.rd.bytesRead + m →
      exec i s = .next { s with resp := .error .endOfStream })

/-- The result of `READBITS n` is an unsigned value of `n` bits, and only a legal width has one
(40_bitcursor.md R142). -/
def Obligations.ReadResultFitsWidth : Prop :=
  ∀ (c c' : Cursor) (src : Memory) (srcLen : Nat) (n : Int) (v : Nat),
    c.readBits src srcLen n = .value v c' →
    n ∈ ([1, 2, 3, 4, 5, 6, 7, 8, 16, 24, 32] : List Int) ∧ v < 2 ^ n.toNat

/-- Every successful read of `n` bits advances `BITPOS` by `n`, and a flush advances it to the next multiple of
8 (10_state.md R22). -/
def Obligations.BitPositionAdvances : Prop :=
  ∀ s : State, CursorOk s →
    (∀ (n : Int) (v : Nat) (c : Cursor), s.rd.readBits s.src s.srcLen n = .value v c →
      c.bitPos = s.rd.bitPos + n.toNat ∧ CursorOk { s with rd := c }) ∧
    s.rd.flush.bitPos = (s.rd.bitPos + 7) / 8 * 8 ∧ CursorOk { s with rd := s.rd.flush }

/-- `FLUSH` sets `rem` to 0 and changes neither `cache` nor `bytesRead`; it succeeds in every state of the
cursor, a second one changes nothing, and the bit position advances by the old `rem` to the next multiple of 8
(40_bitcursor.md R148). -/
def Obligations.FlushDropsPendingBits : Prop :=
  (∀ s : State, CursorOk s →
    ({ s.rd with rem := 0 } : Cursor).bitPos = s.rd.bitPos + s.rd.rem ∧
    ({ s.rd with rem := 0 } : Cursor).bitPos = (s.rd.bitPos + 7) / 8 * 8) ∧
  ∀ s : State, s.stage = .idle →
    exec .flush s = .next { s with rd := { s.rd with rem := 0 }, resp := .ok } ∧
    exec .flush { s with rd := { s.rd with rem := 0 }, resp := .ok } =
      .next { s with rd := { s.rd with rem := 0 }, resp := .ok }

/-- `BYTESREAD` returns the counter and writes no state but the answer; the counter is 0 on a fresh cursor and at
most `SRC_LEN` (40_bitcursor.md R149). -/
def Obligations.BytesReadReturnsCounter : Prop :=
  (∀ s : State, s.stage = .idle → exec .bytesRead s = .next { s with resp := .value s.rd.bytesRead }) ∧
  (∀ o : ByteOrder, (Cursor.fresh o).bytesRead = 0) ∧ ∀ s : State, CursorOk s → s.rd.bytesRead ≤ s.srcLen

/-- A width outside {1..8, 16, 24, 32} is `InvalidBitCount`, before anything else is examined: the cursor, the
writer and the buffers stay as they are (60_exceptions.md R321, 40_bitcursor.md R141, R142, R156). -/
def Obligations.IllegalWidthIsInvalidBitCount : Prop :=
  ∀ (s : State) (n : Int) (rest : List Command), s.stage = .idle → s.call = .standalone →
    n ∉ ([1, 2, 3, 4, 5, 6, 7, 8, 16, 24, 32] : List Int) →
    (s.cmds = .readBits n :: rest →
      step s = .next { s with cmds := rest, resp := .error .invalidBitCount }) ∧
    (∀ v : Int, s.cmds = .writeBits n v :: rest →
      step s = .next { s with cmds := rest, resp := .error .invalidBitCount }) ∧
    s.rd.readBits s.src s.srcLen n = .error .invalidBitCount ∧
    ∀ v : Int, s.wr.writeBits n v = .error .invalidBitCount

/-! ### BitWriter commands (40_bitcursor.md section 5) -/

/-- `WRITEBITS n v` for `n` in 1..7 on a standalone writer: the bits are placed in the highest free positions;
a byte that fills up is appended to `SINK` and no other byte of it changes; a field that does not fit is
`CrossByteBoundary` and changes nothing but the answer (40_bitcursor.md R152, R153, R156; the low bits of a
negative `v` are the model's reading, assumption 22). -/
def Obligations.WriteSubByte : Prop :=
  ∀ (s : State) (n v : Int) (i : Instr), (Command.writeBits n v).instr = some i → n < 8 → s.stage = .idle →
    (s.wr.cnt + n.toNat < 8 →
      exec i s = .next { s with
        wr := { s.wr with
          acc := s.wr.acc ||| BitVec.ofNat 8 ((v % 2 ^ n.toNat).toNat * 2 ^ (8 - s.wr.cnt - n.toNat))
          cnt := s.wr.cnt + n.toNat }
        resp := .ok }) ∧
    (s.wr.cnt + n.toNat = 8 → ∃ sink : Memory,
      exec i s = .next { s with
        wr := { s.wr with acc := 0, cnt := 0, sinkLen := s.wr.sinkLen + 1, sink := sink }
        resp := .ok } ∧
      sink.read s.wr.sinkLen = some (s.wr.acc ||| BitVec.ofNat 8 (v % 2 ^ n.toNat).toNat) ∧
      ∀ a, a ≠ s.wr.sinkLen → sink.read a = s.wr.sink.read a) ∧
    (8 < s.wr.cnt + n.toNat → exec i s = .next { s with resp := .error .crossByteBoundary })

/-- `WRITEBITS 8`, `16`, `24` and `32`: the bytes of the low bits of `v` are appended in the byte order of the
writer, no other byte of `SINK` changes; pending bits are `IncompleteBitRead` and change nothing but the answer
(40_bitcursor.md R154, R156; the low bits of a negative `v` are the model's reading, assumption 22). -/
def Obligations.WriteAligned : Prop :=
  ∀ (s : State) (m : Nat) (v : Int) (i : Instr),
    (m = 1 ∧ i = .writeBits8 v ∨ m = 2 ∧ i = .writeBits16 v ∨ m = 3 ∧ i = .writeBits24 v ∨
      m = 4 ∧ i = .writeBits32 v) → s.stage = .idle →
    (s.wr.cnt = 0 → ∃ sink : Memory,
      exec i s = .next { s with
        wr := { s.wr with sinkLen := s.wr.sinkLen + m, sink := sink }
        resp := .ok } ∧
      (∀ j, j < m → sink.read (s.wr.sinkLen + j) = some (BitVec.ofNat 8
        ((v % 2 ^ (8 * m)).toNat / 256 ^ (match s.wr.order with | .le => j | .be => m - 1 - j)))) ∧
      ∀ a, (a < s.wr.sinkLen ∨ s.wr.sinkLen + m ≤ a) → sink.read a = s.wr.sink.read a) ∧
    (s.wr.cnt ≠ 0 → exec i s = .next { s with resp := .error .incompleteBitRead })

/-- `PAD` appends a partially filled byte as it stands, its unwritten bits being 0, and does nothing on an
empty one (40_bitcursor.md R155). -/
def Obligations.PadCompletesByte : Prop :=
  ∀ s : State, s.stage = .idle →
    (s.wr.cnt = 0 → exec .pad s = .next { s with resp := .ok }) ∧
    (0 < s.wr.cnt → ∃ sink : Memory,
      exec .pad s = .next { s with
        wr := { s.wr with acc := 0, cnt := 0, sinkLen := s.wr.sinkLen + 1, sink := sink }
        resp := .ok } ∧
      sink.read s.wr.sinkLen = some s.wr.acc ∧ ∀ a, a ≠ s.wr.sinkLen → sink.read a = s.wr.sink.read a)

/-- What an aligned write appends, an aligned read of the same width and byte order at that place returns: the
low bits of the value (40_bitcursor.md R145, R154, 20_memory.md R66; those of a negative value are the model's
reading, assumption 22). -/
def Obligations.AlignedWriteReadsBack : Prop :=
  ∀ (w w' : BitWriter) (m : Nat) (v : Int), w.alignedWrite m v = .ok w' →
    ({ order := w.order, cache := 0, rem := 0, bytesRead := w.sinkLen } : Cursor).multiByteRead w'.sink w'.sinkLen m =
      .value (v % 2 ^ (8 * m)).toNat { order := w.order, cache := 0, rem := 0, bytesRead := w.sinkLen + m }

/-- Emitting a bit string appends exactly its bits to what the writer holds, and keeps the writer well formed
(40_bitcursor.md R158, R153, 10_state.md R27). -/
def Obligations.EmitAppendsBits : Prop :=
  ∀ (w : BitWriter) (bits : Bits), WriterOk w →
    (w.emit bits).written = w.written ++ bits ∧ WriterOk (w.emit bits)

/-! ### Mode codes (42_mode_codes.md) -/

/-- In `READ_MODE` each of the nine mode words latches `b1` and `b2` and what it decoded, and nothing else
(42_mode_codes.md R212). -/
def Obligations.ModeWordsLatch : Prop :=
  ∀ s : State, s.stage = .readMode →
    exec .p s = .next { s with
      b1 := (findB s.width s.ref s.a0 s.color).1, b2 := (findB s.width s.ref s.a0 s.color).2, stage := .pass } ∧
    exec .h s = .next { s with
      b1 := (findB s.width s.ref s.a0 s.color).1, b2 := (findB s.width s.ref s.a0 s.color).2, stage := .horiz,
      tot := 0, r1 := none } ∧
    ∀ (i : Instr) (o : Offset),
      ((i = .v0 ∧ o = .zero) ∨ (i = .vr1 ∧ o = .right1) ∨ (i = .vr2 ∧ o = .right2) ∨ (i = .vr3 ∧ o = .right3) ∨
        (i = .vl1 ∧ o = .left1) ∨ (i = .vl2 ∧ o = .left2) ∨ (i = .vl3 ∧ o = .left3)) →
      exec i s = .next { s with
        b1 := (findB s.width s.ref s.a0 s.color).1, b2 := (findB s.width s.ref s.a0 s.color).2, stage := .vert,
        k := o }

/-- `P` is the word 0001, and the `PASS` step moves `a0` to `b2`, changes neither colour nor line, and ends the row
at `WIDTH`; a step that would not increase `a0` raises (42_mode_codes.md R218). -/
def Obligations.PassMovesToB2 : Prop :=
  encode .p = [false, false, false, true] ∧ ∀ s : State, s.stage = .pass →
    (s.a0 < s.b2 → exec .p s = .next { s with
      a0 := s.b2, stage := if s.b2 ≥ s.width then .rowEnd else .readMode }) ∧
    (s.b2 ≤ s.a0 → ∃ t, exec .p s = .next t ∧ t.stage = .failed ∧ t.err = .decompressionError)

/-- The `VERT` step with `a1 = b1 + k`, for each of the seven vertical words: outside `[a0, WIDTH]` or at `a0`
it raises `DecompressionError`; otherwise it records `a1` (the sentinel is not stored), flips the colour, sets
`a0` to `a1` and ends the row at `WIDTH`, and changes nothing else (42_mode_codes.md R220 to R227, R230,
R232, R233). -/
def Obligations.VerticalStep : Prop :=
  ∀ (s : State) (i : Instr) (d : Int),
    ((i = .v0 ∧ d = 0) ∨ (i = .vr1 ∧ d = 1) ∨ (i = .vr2 ∧ d = 2) ∨ (i = .vr3 ∧ d = 3) ∨
      (i = .vl1 ∧ d = -1) ∨ (i = .vl2 ∧ d = -2) ∨ (i = .vl3 ∧ d = -3)) →
    s.stage = .vert →
    (s.b1 + d < s.a0 ∨ s.width < s.b1 + d ∨ s.b1 + d = s.a0 →
      ∃ t, exec i s = .next t ∧ t.stage = .failed ∧ t.err = .decompressionError) ∧
    ((∀ e ∈ s.cur, e ≤ s.a0) → s.a0 < s.b1 + d → s.b1 + d ≤ s.width →
      exec i s = .next { s with
        cur := if s.b1 + d = s.width then s.cur else s.cur ++ [s.b1 + d]
        color := match s.color with | .white => .black | .black => .white
        a0 := s.b1 + d
        stage := if s.b1 + d ≥ s.width then .rowEnd else .readMode })

/-- `findB`: `b1` is the element of least index among those whose index has the parity of the colour and which
are strictly right of `a0`, and `b2` the element after it or `WIDTH`; both are `WIDTH` where there is none.
Every mode word in `READ_MODE` computes them anew (42_mode_codes.md R210). -/
def Obligations.FindBIsFirstQualifying : Prop :=
  (∀ (s t : State) (i : Instr), s.stage = .readMode → exec i s = .next t →
    (t.b1, t.b2) = findB s.width s.ref s.a0 s.color) ∧
  ∀ (width a0 : Int) (ref : List Int) (color : Color),
    (∀ i e, ref[i]? = some e → i % 2 = colorBit color → a0 < e →
      (∀ j f, j < i → ref[j]? = some f → j % 2 = colorBit color → f ≤ a0) →
      findB width ref a0 color = (e, ref.getD (i + 1) width)) ∧
    ((∀ i e, ref[i]? = some e → i % 2 = colorBit color → e ≤ a0) →
      findB width ref a0 color = (width, width))

/-- Inside a row `a0 < b1 <= b2 <= WIDTH` and `b1 >= 0`, and `b1 = b2` only at `WIDTH`, so a Pass always
increases `a0` (42_mode_codes.md R211). -/
def Obligations.FindBBounds : Prop :=
  ∀ (width a0 : Int) (ref : List Int) (color : Color), LineOk width ref → -1 ≤ a0 → a0 < width →
    a0 < (findB width ref a0 color).1 ∧ (findB width ref a0 color).1 ≤ (findB width ref a0 color).2 ∧
    (findB width ref a0 color).2 ≤ width ∧ 0 ≤ (findB width ref a0 color).1 ∧
    ((findB width ref a0 color).1 = (findB width ref a0 color).2 → (findB width ref a0 color).1 = width)

/-! ### Run codes (41_run_codes.md) -/

/-- Every makeup word (`WM`, `BM`, and `XM` in either colour) adds its value to the run being read and changes
nothing else (41_run_codes.md R183, R185, R187, R188). -/
def Obligations.MakeupWordsAccumulate : Prop :=
  ∀ (s : State) (c : Color) (i : Instr) (n : Nat), s.runColor = some c → wellFormed (.run c) i = true →
    runValue i = some n → 64 ≤ n → exec i s = .next { s with tot := s.tot + n }

/-- Every terminating word (`WT`, `BT`) that ends the first run of a Horizontal fixes that run's length and
changes nothing else (41_run_codes.md R183, R184, R186, 42_mode_codes.md R219; the run is kept as assumption 1
says). -/
def Obligations.TerminatingWordKeepsFirstRun : Prop :=
  ∀ (s : State) (c : Color) (i : Instr) (n : Nat), s.stage = .horiz → s.r1 = none → s.color = c →
    wellFormed (.run c) i = true → runValue i = some n → n < 64 →
    exec i s = .next { s with r1 := some (s.tot + n), tot := 0 }

/-- Every terminating word that ends the second run of a Horizontal completes the step: with `s = max(a0, 0)`,
`e1 = s + r1` and `e2 = e1 + r2`, a total beyond `WIDTH` or an element that repeats a column raises
`DecompressionError`; otherwise the elements below `WIDTH` are recorded, `a0` becomes `e2`, the colour stays
and the row ends at `WIDTH` (42_mode_codes.md R219, R230, R231, R233). -/
def Obligations.TerminatingWordEndsHorizontal : Prop :=
  ∀ (s : State) (c : Color) (i : Instr) (n r : Nat) (e1 e2 : Int), s.stage = .horiz → s.r1 = some r →
    s.color ≠ c → wellFormed (.run c) i = true → runValue i = some n → n < 64 →
    e1 = max s.a0 0 + r → e2 = e1 + ((s.tot + n : Nat) : Int) →
    (s.width < e2 ∨ (e1 ≠ s.width ∧ s.cur.getLast? = some e1) ∨ (e1 ≠ s.width ∧ e2 = e1) →
      ∃ t, exec i s = .next t ∧ t.stage = .failed ∧ t.err = .decompressionError) ∧
    (e2 ≤ s.width → s.a0 < s.width → (∀ e ∈ s.cur, e ≤ s.a0) → s.cur.getLast? ≠ some e1 →
      (e1 = s.width ∨ e1 < e2) →
      exec i s = .next { s with
        cur := s.cur ++ (if e1 = s.width then [] else [e1]) ++ (if e2 = s.width then [] else [e2])
        a0 := e2
        stage := if e2 ≥ s.width then .rowEnd else .readMode
        tot := 0
        r1 := none })

/-- Every terminating word in a one-dimensional row completes the step: a total beyond `WIDTH` or a repeated
column raises `DecompressionError`; otherwise `a0` advances by the run, the element is recorded (the sentinel
is not stored), the colour flips and the row ends at `WIDTH` (43_rows_and_raster.md R256, 42_mode_codes.md
R230). -/
def Obligations.TerminatingWordInOneDRow : Prop :=
  ∀ (s : State) (c : Color) (i : Instr) (n : Nat) (e : Int), s.stage = .oneD → s.color = c →
    wellFormed (.run c) i = true → runValue i = some n → n < 64 →
    e = s.a0 + ((s.tot + n : Nat) : Int) → (∀ x ∈ s.cur, x ≤ s.a0) →
    (s.width < e ∨ (e ≠ s.width ∧ s.cur.getLast? = some e) →
      ∃ t, exec i s = .next t ∧ t.stage = .failed ∧ t.err = .decompressionError) ∧
    (e ≤ s.width → (e = s.width ∨ s.cur.getLast? ≠ some e) →
      exec i s = .next { s with
        cur := if e = s.width then s.cur else s.cur ++ [e]
        color := match s.color with | .white => .black | .black => .white
        a0 := e
        stage := if e ≥ s.width then .rowEnd else .oneD
        tot := 0 })

/-- `encodeRun(c, n)` emits words of its colour only, the last a terminating word and the others makeup words,
whose values sum to `n` (44_encoder.md R296, 30_encoding.md R107). -/
def Obligations.EncodeRunSplitsExactly : Prop :=
  ∀ (c : Color) (n : Nat), ∃ (makeups : List Instr) (last : Instr),
    encodeRun c n = makeups ++ [last] ∧
    (∀ i ∈ encodeRun c n, wellFormed (.run c) i = true) ∧
    (∀ i ∈ makeups, ∃ v, runValue i = some v ∧ 64 ≤ v) ∧
    runValue last = some (n % 64) ∧
    ((encodeRun c n).filterMap runValue).sum = n

/-- `decodeRun(c)` on a stream that begins with the bits of `encodeRun(c, n)` returns `n` and consumes exactly
those bits (44_encoder.md R296, 41_run_codes.md R183). -/
def Obligations.DecodeRunInvertsEncodeRun : Prop :=
  ∀ (s : State) (c : Color) (n : Nat) (rest : Bits), CursorOk s → SrcLoaded s →
    s.upcoming = encodeAll (encodeRun c n) ++ rest →
    ∃ cur : Cursor, decodeRun c s = .run n { s with rd := cur } ∧ CursorOk { s with rd := cur } ∧
      ({ s with rd := cur } : State).upcoming = rest ∧
      cur.bitPos = s.rd.bitPos + (encodeAll (encodeRun c n)).length

/-! ### Rows and raster (43_rows_and_raster.md) -/

/-- Without framing a `ROW_START` sets `a0` to -1, the colour to white and the line to empty, flushes the cursor
where `FILL` is set, and goes to `READ_MODE` (43_rows_and_raster.md R251; the temporaries are assumption 1). -/
def Obligations.RowStartWithoutFraming : Prop :=
  ∀ s : State, s.stage = .rowStart → s.mixed = false → s.eolSeen = false →
    step s = .next { s with
      a0 := -1
      color := .white
      cur := []
      rd := if s.fill then { s.rd with rem := 0 } else s.rd
      stage := .readMode
      tot := 0
      r1 := none }

/-- `ROW_END` writes the row's bytes to `RAS` from `row * ROWBYTES` on and no other byte, makes the coding line
the reference line, counts the row, and ends the call after the last row (43_rows_and_raster.md R262). -/
def Obligations.EndOfRow : Prop :=
  ∀ s : State, s.stage = .rowEnd → ∃ ras : Memory,
    step s = .next { s with
      ras := ras
      ref := s.cur
      row := s.row + 1
      stage := if (s.row : Int) + 1 = s.height then .done else .rowStart } ∧
    (∀ j, j < rowBytes s.width → ∃ b, (fromChangingElements s.cur s.width)[j]? = some b ∧
      ras.read (s.row * rowBytes s.width + j) = some b) ∧
    ∀ a, (a < s.row * rowBytes s.width ∨ s.row * rowBytes s.width + rowBytes s.width ≤ a) →
      ras.read a = s.ras.read a

/-- A packed row has `ROWBYTES` bytes, its pixel `x` is black exactly when an odd number of elements are at most
`x`, and its padding bits are 0 (43_rows_and_raster.md R260, 10_state.md R40 (d), 20_memory.md R65). -/
def Obligations.PackedRowPixels : Prop :=
  ∀ (width : Int) (line : List Int), 0 < width → LineOk width line →
    (fromChangingElements line width).length = rowBytes width ∧
    (∀ x : Nat, (x : Int) < width → packedPixel (fromChangingElements line width) x = linePixel line x) ∧
    PaddingZero (fromChangingElements line width) width

/-- The two conversions of the raster assembler are mutually inverse on their domains, and scanning a row gives
a line that satisfies 10_state.md R40. Scanning depends on the pixels of the columns only, never on the padding
bits, and packing what was scanned gives the same pixels back (43_rows_and_raster.md R264, R265,
93_implementation_defined.md U6). -/
def Obligations.RasterAssemblyInverts : Prop :=
  (∀ (width : Int) (line : List Int), 0 < width → LineOk width line →
    toChangingElements (fromChangingElements line width) width = line) ∧
  (∀ (width : Int) (row : List Byte), 0 < width → row.length = rowBytes width → PaddingZero row width →
    fromChangingElements (toChangingElements row width) width = row) ∧
  (∀ (width : Int) (row : List Byte), LineOk width (toChangingElements row width)) ∧
  (∀ (width : Int) (row row' : List Byte), (∀ x, x < width.toNat → packedPixel row x = packedPixel row' x) →
    toChangingElements row width = toChangingElements row' width) ∧
  (∀ (width : Int) (row : List Byte), 0 < width → ∀ x, x < width.toNat →
    packedPixel (fromChangingElements (toChangingElements row width) width) x = packedPixel row x)

/-! ### Start of a call, reset, errors -/

/-- The start of a call: with a non-positive `WIDTH` or `HEIGHT`, `decompress` and `compress` raise
`InvalidGeometry` before any bit is read or written; otherwise `decompress` goes to `ROW_START` and `compress`,
given exactly `HEIGHT * ROWBYTES` bytes, to its busy state, with the registers at the reset values that the spec
gives;
`compress` given another length is refused (43_rows_and_raster.md R250, 44_encoder.md R290, 60_exceptions.md
R328, 70_reset_and_hazards.md R360; assumptions 13, 20). -/
def Obligations.StartOfCall : Prop :=
  ∀ s : State, s.stage = .idle →
    (s.call = .decompress ∨ s.call = .compress → (s.width ≤ 0 ∨ s.height ≤ 0) →
      ∃ t, step s = .next t ∧ t.stage = .failed ∧ t.err = .invalidGeometry ∧ t.rd.bytesRead = 0 ∧
        t.rd.rem = 0 ∧ t.wr.sinkLen = 0 ∧ t.wr.sink = [] ∧ (s.call = .compress → t.ras = s.ras)) ∧
    (0 < s.width → 0 < s.height →
      (s.call = .decompress → ∃ t, step s = .next t ∧ t.stage = .rowStart ∧
        t.rd = Cursor.fresh s.rd.order ∧ t.wr = BitWriter.fresh s.wr.order ∧ t.err = .none ∧ t.row = 0 ∧
        t.a0 = -1 ∧ t.color = .white ∧ t.ref = [] ∧ t.cur = []) ∧
      (s.call = .compress → s.ras.map Prod.fst = List.range (s.height.toNat * rowBytes s.width) →
        ∃ t, step s = .next t ∧ t.stage = .busy ∧ t.ras = s.ras ∧ t.rd = Cursor.fresh s.rd.order ∧
          t.wr = BitWriter.fresh s.wr.order ∧ t.err = .none ∧ t.row = 0 ∧ t.a0 = -1 ∧ t.color = .white ∧
          t.ref = [] ∧ t.cur = []) ∧
      (s.call = .compress → s.ras.map Prod.fst ≠ List.range (s.height.toNat * rowBytes s.width) →
        step s = .refused .rasterLength))

/-- After reset, and so at the start of every call and session that the host sets up, the registers have the
values that the spec gives, and the configuration is what the host supplied (10_state.md R45,
70_reset_and_hazards.md R361; how the host supplies it is assumption 10). -/
def Obligations.ResetValues : Prop :=
  (∀ s : State, (s = State.reset ∨ (∃ src w h f m, s = State.decompressCall src w h f m) ∨
      (∃ raster w h f, s = State.compressCall raster w h f) ∨ (∃ src o cmds, s = State.session src o cmds)) →
    s.rd.bytesRead = 0 ∧ s.rd.rem = 0 ∧ s.rd.cache = 0 ∧ s.wr.acc = 0 ∧ s.wr.cnt = 0 ∧ s.wr.sinkLen = 0 ∧
    s.wr.sink = [] ∧ s.stage = .idle ∧ s.err = .none ∧ s.row = 0 ∧ s.a0 = -1 ∧ s.color = .white ∧ s.ref = [] ∧
    s.cur = []) ∧
  (∀ src w h f m, (State.decompressCall src w h f m).width = w ∧ (State.decompressCall src w h f m).height = h ∧
    (State.decompressCall src w h f m).fill = f ∧ (State.decompressCall src w h f m).mixed = m ∧
    (State.decompressCall src w h f m).srcLen = src.length ∧
    ∀ a, a < src.length → (State.decompressCall src w h f m).src.read a = src[a]?) ∧
  (∀ raster w h f, (State.compressCall raster w h f).width = w ∧ (State.compressCall raster w h f).height = h ∧
    (State.compressCall raster w h f).fill = f ∧
    ∀ a, a < raster.length → (State.compressCall raster w h f).ras.read a = raster[a]?) ∧
  (∀ src o cmds, (State.session src o cmds).rd.order = o ∧ (State.session src o cmds).wr.order = o ∧
    (State.session src o cmds).cmds = cmds)

/-- `FAILED` is absorbing: no step is enabled in it. `ERR` changes only in the step that fails the call, from
`None` to an error, or where a new call starts, and what the host then observes is that error and nothing else
(60_exceptions.md R329 to R331; that a step in `FAILED` answers a fault is assumption 9). -/
def Obligations.ErrorIsStickyAndFinal : Prop :=
  (∀ s : State, s.stage = .failed → step s = .fault .callFailed) ∧
  (∀ s t : State, StatusOk s → step s = .next t → s.stage ≠ .idle → t.err ≠ s.err →
    s.err = .none ∧ t.err ≠ .none ∧ t.stage = .failed) ∧
  (∀ s t : State, step s = .next t → t.stage = .failed →
    t.err ≠ .none ∧ t.hostView = .error t.err)

/-- Which step can raise what: `InvalidGeometry` only the start of a call, `EOLError` only a framed
`ROW_START`, `DecompressionError` only `ROW_START` with framing, `READ_MODE`, `HORIZ`, `VERT` and `ONE_D`; no
other kind ever ends a call, `EndOfStream` among them (60_exceptions.md R325 to R328). -/
def Obligations.ErrorKindsByStep : Prop :=
  ∀ s t : State, CallOk s → TempOk s → step s = .next t → t.stage = .failed →
    (t.err = .invalidGeometry ∧ s.stage = .idle) ∨
    (t.err = .eolError ∧ s.stage = .rowStart ∧ s.mixed = true) ∨
    (t.err = .decompressionError ∧
      ((s.stage = .rowStart ∧ s.mixed = true) ∨ s.stage = .readMode ∨ s.stage = .horiz ∨ s.stage = .vert ∨
        s.stage = .oneD))

/-- No step writes a configuration register, a byte order, `SRC` or its length (10_state.md R25, R28,
20_memory.md R60, R75). -/
def Obligations.ConfigurationIsConstant : Prop :=
  ∀ s t : State, step s = .next t →
    t.width = s.width ∧ t.height = s.height ∧ t.fill = s.fill ∧ t.mixed = s.mixed ∧ t.src = s.src ∧
    t.srcLen = s.srcLen ∧ t.rd.order = s.rd.order ∧ t.wr.order = s.wr.order ∧ t.call = s.call

/-! ### Whole-machine rules and invariants -/

/-- The bit position never decreases and the byte counter never decreases, but where a call starts anew; and a
step of the encoder or of a row end reads no bit (10_state.md R21, R22, 70_reset_and_hazards.md R380). -/
def Obligations.BitPositionNeverDecreases : Prop :=
  ∀ s t : State, CursorOk s → step s = .next t → (s.stage ≠ .idle ∨ s.call = .standalone) →
    s.rd.bitPos ≤ t.rd.bitPos ∧ s.rd.bytesRead ≤ t.rd.bytesRead ∧
    (s.stage = .rowEnd ∨ s.stage = .pass ∨ s.stage = .vert ∨ s.stage = .busy → t.rd = s.rd)

/-- Inside a row every action that completes strictly increases `a0` and keeps it at most `WIDTH`; a code word in
the middle of a Horizontal changes none of `a0`, `color` and `cur` (42_mode_codes.md R232, R233). -/
def Obligations.ActionsAdvanceA0 : Prop :=
  ∀ s t : State, CallOk s → step s = .next t → (s.stage = .pass ∨ s.stage = .vert ∨ s.stage = .horiz) →
    t.stage ≠ .failed →
    (s.a0 < t.a0 ∧ t.a0 ≤ s.width ∧ t.stage = (if t.a0 = s.width then .rowEnd else .readMode)) ∨
    (s.stage = .horiz ∧ t.stage = .horiz ∧ t.a0 = s.a0 ∧ t.color = s.color ∧ t.cur = s.cur)

/-- Every step keeps the memories' canonical form, the error register's agreement with `STATE`, and the
temporaries empty outside their steps (10_state.md R30, 60_exceptions.md R330; assumptions 1, 6, 14). -/
def Obligations.MemoryStatusTempKept : Prop :=
  ∀ s t : State, step s = .next t →
    (MemoryOk s → MemoryOk t) ∧ (StatusOk s → StatusOk t) ∧ (TempOk s → TempOk t)

/-- Every step keeps the cursor invariants (10_state.md R26 (a) to (c)). -/
def Obligations.CursorInvariantKept : Prop :=
  ∀ s t : State, CursorOk s → step s = .next t → CursorOk t

/-- Every step keeps the writer invariants: `cnt` in 0..7, unwritten positions 0, `SINK` exactly `sinkLen`
bytes long (10_state.md R27). -/
def Obligations.WriterInvariantKept : Prop :=
  ∀ s t : State, WriterOk s.wr → step s = .next t → WriterOk t.wr

/-- Every step keeps the registers and lines of a call well formed: both lines satisfy 10_state.md R40, `a0` is
in `[-1, WIDTH]` and below `WIDTH` inside a row, `color` is the parity of the recorded elements, a row ends
with `a0 = WIDTH`, a call ends with `row = HEIGHT`. In a `decompress` call `RAS` holds exactly the rows produced so
far, the last one the packed reference line, and so `HEIGHT * ROWBYTES` bytes in `DONE` (10_state.md R31 to R40,
42_mode_codes.md R233, 20_memory.md R61, R73). -/
def Obligations.CallInvariantKept : Prop :=
  ∀ s t : State, step s = .next t →
    (CallOk s → CallOk t) ∧ (RasOk s → RasOk t) ∧
    (CallOk s → RasOk s → t.call = .decompress → t.stage = .done →
      t.ras.map Prod.fst = List.range (t.height.toNat * rowBytes t.width))

/-- The invariants hold after reset (10_state.md R45). That the source is loaded and the memories are canonical rests
on the empty buffers of assumptions 3 and 6, that the temporaries are empty on the reset values of assumptions 1
and 14, and that no raster is due on `IDLE`. -/
def Obligations.InvariantsHoldAtReset : Prop :=
  CursorOk State.reset ∧ WriterOk State.reset.wr ∧ MemoryOk State.reset ∧ StatusOk State.reset ∧
  TempOk State.reset ∧ CallOk State.reset ∧ RasOk State.reset ∧ SrcLoaded State.reset

/-- Every step goes where the table of 43_rows_and_raster.md R270 says, with the loops of assumption 1 and the
encoder's busy state. -/
def Obligations.StagesFollowTable : Prop :=
  ∀ s t : State, CallOk s → step s = .next t → t.stage ∈ s.stage.followers

/-- The machine is never stuck: in every state of a running call, decoder or encoder, a step answers a next
state (43_rows_and_raster.md R271). -/
def Obligations.RunningCallNeverStuck : Prop :=
  ∀ s : State, CallOk s → TempOk s → SrcLoaded s →
    (∀ a, a < s.height.toNat * rowBytes s.width → s.stage = .busy → (s.ras.read a).isSome) →
    s.stage.running = true → ∃ t, step s = .next t

/-- Every `decompress` call, on any bytes and with any parameters, reaches `DONE` or `FAILED` in finitely many
steps, and where it reaches `DONE` it has produced exactly `HEIGHT * ROWBYTES` bytes of `RAS`
(43_rows_and_raster.md R271, 20_memory.md R61, 60_exceptions.md R343). -/
def Obligations.EveryDecompressEnds : Prop :=
  ∀ (src : List Byte) (width height : Int) (fill mixed : Bool),
    ∃ n t, run n (State.decompressCall src width height fill mixed) = .next t ∧ t.over ∧
      (t.stage = .done → t.ras.map Prod.fst = List.range (height.toNat * rowBytes width))

/-- One transition of the table of 43_rows_and_raster.md R270, as the spec cuts them (a whole Horizontal, a
whole one-dimensional run, a whole framed row start), is a run of one or more steps of the machine, with the
same outcome (42_mode_codes.md R219, 43_rows_and_raster.md R252, R253, R256; assumption 1, and assumptions 18 and
25 for the cursor and the registers of a failed call). -/
def Obligations.TransitionIsRunOfSteps : Prop :=
  ∀ s : State, s.atBoundary → ∃ n, run (n + 1) s = transition s

/-! ### Encoder (44_encoder.md) -/

/-- One step of the encoder inside a row: Pass where `b2 < a1`, else Vertical where `|a1 - b1| <= 3`, else
Horizontal, in this order, each emitting its code words and advancing `a0` (44_encoder.md R293 to R297; that one
choice is one step is assumption 14). -/
def Obligations.EncoderChoosesMode : Prop :=
  ∀ (s : State) (b1 b2 a1 a2 : Int), s.stage = .busy → s.rowOpen = true → s.a0 < s.width →
    findB s.width s.ref s.a0 s.color = (b1, b2) → findA s.width s.a0 s.cur = (a1, a2) →
    (b2 < a1 → step s = .next { s with b1 := b1, b2 := b2, wr := s.wr.emit (encode .p), a0 := b2 }) ∧
    (a1 ≤ b2 → -3 ≤ a1 - b1 → a1 - b1 ≤ 3 → ∃ o : Offset, offsetValue o = a1 - b1 ∧
      step s = .next { s with
        b1 := b1, b2 := b2, wr := s.wr.emit (encode (offsetInstr o)), a0 := a1, color := opp s.color }) ∧
    (a1 ≤ b2 → (a1 - b1 < -3 ∨ 3 < a1 - b1) →
      step s = .next { s with
        b1 := b1, b2 := b2, a0 := a2
        wr := s.wr.emit (encode .h ++ encodeAll (encodeRun s.color (a1 - max s.a0 0).toNat) ++
          encodeAll (encodeRun (opp s.color) (a2 - a1).toNat)) })

/-- The edges of an encoded row: its start loads the line from the raster; its end pads where `FILL` is set,
makes the coding line the reference line and counts the row, and after the last row pads once more and ends the
call (44_encoder.md R291, R300, R301; assumption 14). -/
def Obligations.EncoderRowEdges : Prop :=
  ∀ s : State, s.stage = .busy →
    (s.rowOpen = false → ∀ bytes : List Byte,
      s.ras.readBytes (s.row * rowBytes s.width) (rowBytes s.width) = some bytes →
      step s = .next { s with
        cur := toChangingElements bytes s.width, a0 := -1, color := .white, rowOpen := true }) ∧
    (s.rowOpen = true → s.width ≤ s.a0 →
      ((s.row : Int) + 1 ≠ s.height →
        step s = .next { s with
          wr := if s.fill then s.wr.pad else s.wr, ref := s.cur, row := s.row + 1, rowOpen := false }) ∧
      ((s.row : Int) + 1 = s.height →
        step s = .next { s with
          wr := (if s.fill then s.wr.pad else s.wr).pad, ref := s.cur, row := s.row + 1, rowOpen := false
          stage := .done }))

/-- Every step of the encoder inside a row strictly increases `a0` and keeps it at most `WIDTH`, and `color`
stays the parity of the elements of the coding line at or left of `a0` until the row is full (44_encoder.md R292,
R306; that one choice is one step is assumption 14). -/
def Obligations.EncoderStepAdvances : Prop :=
  ∀ s : State, s.stage = .busy → s.rowOpen = true → RowOk s → s.a0 < s.width →
    ∃ t, step s = .next t ∧ s.a0 < t.a0 ∧ t.a0 ≤ s.width ∧ (ParityOk s → t.a0 < s.width → ParityOk t)

/-- Lock step: a decoder at the encoder's position, whose stream begins with the words of the encoder's next
choice, reaches in some steps the position to which the encoder advances, having consumed exactly those words
(44_encoder.md R298, R304). -/
def Obligations.EncoderLockStep : Prop :=
  ∀ (e d : State) (rest : Bits), RowOk e → e.a0 < e.width →
    d.stage = .readMode → TempOk d → CursorOk d → SrcLoaded d → d.width = e.width → d.ref = e.ref →
    d.a0 = e.a0 → d.color = e.color → d.cur = e.cur.filter (fun x => decide (x ≤ e.a0)) →
    d.upcoming = encodeAll (e.choice.words e.color e.a0) ++ rest →
    ∃ n d', run n d = .next d' ∧ e.a0 < d'.a0 ∧ d'.a0 = e.encodeStep.a0 ∧ d'.color = e.encodeStep.color ∧
      d'.cur = e.cur.filter (fun x => decide (x ≤ d'.a0)) ∧ d'.ref = e.ref ∧ d'.row = d.row ∧
      d'.stage = nextStage d.width d'.a0 ∧ TempOk d' ∧ CursorOk d' ∧ d'.upcoming = rest

/-- Round trip: every raster of legal geometry and of the right length is encoded without error, and decoding the
result with `MIXED` clear and the same `FILL` returns that raster with its padding bits cleared: every pixel as it
was, every padding bit 0, and so exactly the raster where its padding bits are 0 (44_encoder.md R305,
93_implementation_defined.md U6). -/
def Obligations.DecompressInvertsCompress : Prop :=
  ∀ (raster : List Byte) (width height : Int) (fill : Bool), 0 < width → 0 < height →
    raster.length = height.toNat * rowBytes width →
    ∃ (n m : Nat) (e d : State) (bytes cleared : List Byte),
      run n (State.compressCall raster width height fill) = .next e ∧ e.stage = .done ∧
      e.hostView = .ok (Memory.ofBytes bytes) ∧
      run m (State.decompressCall bytes width height fill false) = .next d ∧ d.stage = .done ∧
      d.hostView = .ok (Memory.ofBytes cleared) ∧ RasterOk cleared width height ∧
      (∀ r, r < height.toNat → ∀ x, x < width.toNat →
        packedPixel (packedRow cleared width r) x = packedPixel (packedRow raster width r) x) ∧
      (RasterOk raster width height → cleared = raster)
end

