-- ==== Sys2Proof/Laws/State.lean ====
section
/-!
SUPPORT. One lemma for each field of each update of the state, each true by rfl.
-/

namespace Sys2Proof.Machine

/-! ### flipColor -/

@[simp] theorem State.flipColor_rd (s : State) : s.flipColor.rd = s.rd := rfl
@[simp] theorem State.flipColor_wr (s : State) : s.flipColor.wr = s.wr := rfl
@[simp] theorem State.flipColor_src (s : State) : s.flipColor.src = s.src := rfl
@[simp] theorem State.flipColor_srcLen (s : State) : s.flipColor.srcLen = s.srcLen := rfl
@[simp] theorem State.flipColor_ras (s : State) : s.flipColor.ras = s.ras := rfl
@[simp] theorem State.flipColor_width (s : State) : s.flipColor.width = s.width := rfl
@[simp] theorem State.flipColor_height (s : State) : s.flipColor.height = s.height := rfl
@[simp] theorem State.flipColor_fill (s : State) : s.flipColor.fill = s.fill := rfl
@[simp] theorem State.flipColor_mixed (s : State) : s.flipColor.mixed = s.mixed := rfl
@[simp] theorem State.flipColor_stage (s : State) : s.flipColor.stage = s.stage := rfl
@[simp] theorem State.flipColor_err (s : State) : s.flipColor.err = s.err := rfl
@[simp] theorem State.flipColor_sub (s : State) : s.flipColor.sub = s.sub := rfl
@[simp] theorem State.flipColor_row (s : State) : s.flipColor.row = s.row := rfl
@[simp] theorem State.flipColor_a0 (s : State) : s.flipColor.a0 = s.a0 := rfl
@[simp] theorem State.flipColor_color (s : State) : s.flipColor.color = opp s.color := rfl
@[simp] theorem State.flipColor_b1 (s : State) : s.flipColor.b1 = s.b1 := rfl
@[simp] theorem State.flipColor_b2 (s : State) : s.flipColor.b2 = s.b2 := rfl
@[simp] theorem State.flipColor_k (s : State) : s.flipColor.k = s.k := rfl
@[simp] theorem State.flipColor_ref (s : State) : s.flipColor.ref = s.ref := rfl
@[simp] theorem State.flipColor_cur (s : State) : s.flipColor.cur = s.cur := rfl
@[simp] theorem State.flipColor_tot (s : State) : s.flipColor.tot = s.tot := rfl
@[simp] theorem State.flipColor_r1 (s : State) : s.flipColor.r1 = s.r1 := rfl
@[simp] theorem State.flipColor_eolSeen (s : State) : s.flipColor.eolSeen = s.eolSeen := rfl
@[simp] theorem State.flipColor_rowOpen (s : State) : s.flipColor.rowOpen = s.rowOpen := rfl
@[simp] theorem State.flipColor_call (s : State) : s.flipColor.call = s.call := rfl
@[simp] theorem State.flipColor_cmds (s : State) : s.flipColor.cmds = s.cmds := rfl
@[simp] theorem State.flipColor_resp (s : State) : s.flipColor.resp = s.resp := rfl
@[simp] theorem State.flipColor_free (s : State) : s.flipColor.free = s.free := rfl

/-! ### raise -/

@[simp] theorem State.raise_rd (s : State) (e : ErrKind) (c : Option SubCause) : (s.raise e c).rd = s.rd := rfl
@[simp] theorem State.raise_wr (s : State) (e : ErrKind) (c : Option SubCause) : (s.raise e c).wr = s.wr := rfl
@[simp] theorem State.raise_src (s : State) (e : ErrKind) (c : Option SubCause) : (s.raise e c).src = s.src := rfl
@[simp] theorem State.raise_srcLen (s : State) (e : ErrKind) (c : Option SubCause) : (s.raise e c).srcLen = s.srcLen := rfl
@[simp] theorem State.raise_ras (s : State) (e : ErrKind) (c : Option SubCause) : (s.raise e c).ras = if s.call = .decompress then [] else s.ras := rfl
@[simp] theorem State.raise_width (s : State) (e : ErrKind) (c : Option SubCause) : (s.raise e c).width = s.width := rfl
@[simp] theorem State.raise_height (s : State) (e : ErrKind) (c : Option SubCause) : (s.raise e c).height = s.height := rfl
@[simp] theorem State.raise_fill (s : State) (e : ErrKind) (c : Option SubCause) : (s.raise e c).fill = s.fill := rfl
@[simp] theorem State.raise_mixed (s : State) (e : ErrKind) (c : Option SubCause) : (s.raise e c).mixed = s.mixed := rfl
@[simp] theorem State.raise_stage (s : State) (e : ErrKind) (c : Option SubCause) : (s.raise e c).stage = .failed := rfl
@[simp] theorem State.raise_err (s : State) (e : ErrKind) (c : Option SubCause) : (s.raise e c).err = e := rfl
@[simp] theorem State.raise_sub (s : State) (e : ErrKind) (c : Option SubCause) : (s.raise e c).sub = c := rfl
@[simp] theorem State.raise_row (s : State) (e : ErrKind) (c : Option SubCause) : (s.raise e c).row = s.row := rfl
@[simp] theorem State.raise_a0 (s : State) (e : ErrKind) (c : Option SubCause) : (s.raise e c).a0 = s.a0 := rfl
@[simp] theorem State.raise_color (s : State) (e : ErrKind) (c : Option SubCause) : (s.raise e c).color = s.color := rfl
@[simp] theorem State.raise_b1 (s : State) (e : ErrKind) (c : Option SubCause) : (s.raise e c).b1 = s.b1 := rfl
@[simp] theorem State.raise_b2 (s : State) (e : ErrKind) (c : Option SubCause) : (s.raise e c).b2 = s.b2 := rfl
@[simp] theorem State.raise_k (s : State) (e : ErrKind) (c : Option SubCause) : (s.raise e c).k = s.k := rfl
@[simp] theorem State.raise_ref (s : State) (e : ErrKind) (c : Option SubCause) : (s.raise e c).ref = s.ref := rfl
@[simp] theorem State.raise_cur (s : State) (e : ErrKind) (c : Option SubCause) : (s.raise e c).cur = s.cur := rfl
@[simp] theorem State.raise_tot (s : State) (e : ErrKind) (c : Option SubCause) : (s.raise e c).tot = 0 := rfl
@[simp] theorem State.raise_r1 (s : State) (e : ErrKind) (c : Option SubCause) : (s.raise e c).r1 = none := rfl
@[simp] theorem State.raise_eolSeen (s : State) (e : ErrKind) (c : Option SubCause) : (s.raise e c).eolSeen = false := rfl
@[simp] theorem State.raise_rowOpen (s : State) (e : ErrKind) (c : Option SubCause) : (s.raise e c).rowOpen = false := rfl
@[simp] theorem State.raise_call (s : State) (e : ErrKind) (c : Option SubCause) : (s.raise e c).call = s.call := rfl
@[simp] theorem State.raise_cmds (s : State) (e : ErrKind) (c : Option SubCause) : (s.raise e c).cmds = s.cmds := rfl
@[simp] theorem State.raise_resp (s : State) (e : ErrKind) (c : Option SubCause) : (s.raise e c).resp = s.resp := rfl
@[simp] theorem State.raise_free (s : State) (e : ErrKind) (c : Option SubCause) : (s.raise e c).free = s.free := rfl

/-! ### raiseData -/

@[simp] theorem State.raiseData_rd (s : State) (c : SubCause) : (s.raiseData c).rd = s.rd := rfl
@[simp] theorem State.raiseData_wr (s : State) (c : SubCause) : (s.raiseData c).wr = s.wr := rfl
@[simp] theorem State.raiseData_src (s : State) (c : SubCause) : (s.raiseData c).src = s.src := rfl
@[simp] theorem State.raiseData_srcLen (s : State) (c : SubCause) : (s.raiseData c).srcLen = s.srcLen := rfl
@[simp] theorem State.raiseData_ras (s : State) (c : SubCause) : (s.raiseData c).ras = if s.call = .decompress then [] else s.ras := rfl
@[simp] theorem State.raiseData_width (s : State) (c : SubCause) : (s.raiseData c).width = s.width := rfl
@[simp] theorem State.raiseData_height (s : State) (c : SubCause) : (s.raiseData c).height = s.height := rfl
@[simp] theorem State.raiseData_fill (s : State) (c : SubCause) : (s.raiseData c).fill = s.fill := rfl
@[simp] theorem State.raiseData_mixed (s : State) (c : SubCause) : (s.raiseData c).mixed = s.mixed := rfl
@[simp] theorem State.raiseData_stage (s : State) (c : SubCause) : (s.raiseData c).stage = .failed := rfl
@[simp] theorem State.raiseData_err (s : State) (c : SubCause) : (s.raiseData c).err = .decompressionError := rfl
@[simp] theorem State.raiseData_sub (s : State) (c : SubCause) : (s.raiseData c).sub = some c := rfl
@[simp] theorem State.raiseData_row (s : State) (c : SubCause) : (s.raiseData c).row = s.row := rfl
@[simp] theorem State.raiseData_a0 (s : State) (c : SubCause) : (s.raiseData c).a0 = s.a0 := rfl
@[simp] theorem State.raiseData_color (s : State) (c : SubCause) : (s.raiseData c).color = s.color := rfl
@[simp] theorem State.raiseData_b1 (s : State) (c : SubCause) : (s.raiseData c).b1 = s.b1 := rfl
@[simp] theorem State.raiseData_b2 (s : State) (c : SubCause) : (s.raiseData c).b2 = s.b2 := rfl
@[simp] theorem State.raiseData_k (s : State) (c : SubCause) : (s.raiseData c).k = s.k := rfl
@[simp] theorem State.raiseData_ref (s : State) (c : SubCause) : (s.raiseData c).ref = s.ref := rfl
@[simp] theorem State.raiseData_cur (s : State) (c : SubCause) : (s.raiseData c).cur = s.cur := rfl
@[simp] theorem State.raiseData_tot (s : State) (c : SubCause) : (s.raiseData c).tot = 0 := rfl
@[simp] theorem State.raiseData_r1 (s : State) (c : SubCause) : (s.raiseData c).r1 = none := rfl
@[simp] theorem State.raiseData_eolSeen (s : State) (c : SubCause) : (s.raiseData c).eolSeen = false := rfl
@[simp] theorem State.raiseData_rowOpen (s : State) (c : SubCause) : (s.raiseData c).rowOpen = false := rfl
@[simp] theorem State.raiseData_call (s : State) (c : SubCause) : (s.raiseData c).call = s.call := rfl
@[simp] theorem State.raiseData_cmds (s : State) (c : SubCause) : (s.raiseData c).cmds = s.cmds := rfl
@[simp] theorem State.raiseData_resp (s : State) (c : SubCause) : (s.raiseData c).resp = s.resp := rfl
@[simp] theorem State.raiseData_free (s : State) (c : SubCause) : (s.raiseData c).free = s.free := rfl

/-! ### raiseEither -/

@[simp] theorem State.raiseEither_rd (s : State) (c d : SubCause) : (s.raiseEither c d).rd = s.rd := rfl
@[simp] theorem State.raiseEither_wr (s : State) (c d : SubCause) : (s.raiseEither c d).wr = s.wr := rfl
@[simp] theorem State.raiseEither_src (s : State) (c d : SubCause) : (s.raiseEither c d).src = s.src := rfl
@[simp] theorem State.raiseEither_srcLen (s : State) (c d : SubCause) : (s.raiseEither c d).srcLen = s.srcLen := rfl
@[simp] theorem State.raiseEither_ras (s : State) (c d : SubCause) : (s.raiseEither c d).ras = if s.call = .decompress then [] else s.ras := rfl
@[simp] theorem State.raiseEither_width (s : State) (c d : SubCause) : (s.raiseEither c d).width = s.width := rfl
@[simp] theorem State.raiseEither_height (s : State) (c d : SubCause) : (s.raiseEither c d).height = s.height := rfl
@[simp] theorem State.raiseEither_fill (s : State) (c d : SubCause) : (s.raiseEither c d).fill = s.fill := rfl
@[simp] theorem State.raiseEither_mixed (s : State) (c d : SubCause) : (s.raiseEither c d).mixed = s.mixed := rfl
@[simp] theorem State.raiseEither_stage (s : State) (c d : SubCause) : (s.raiseEither c d).stage = .failed := rfl
@[simp] theorem State.raiseEither_err (s : State) (c d : SubCause) : (s.raiseEither c d).err = .decompressionError := rfl
@[simp] theorem State.raiseEither_sub (s : State) (c d : SubCause) : (s.raiseEither c d).sub = some (if Config.subPick s.free then c else d) := rfl
@[simp] theorem State.raiseEither_row (s : State) (c d : SubCause) : (s.raiseEither c d).row = s.row := rfl
@[simp] theorem State.raiseEither_a0 (s : State) (c d : SubCause) : (s.raiseEither c d).a0 = s.a0 := rfl
@[simp] theorem State.raiseEither_color (s : State) (c d : SubCause) : (s.raiseEither c d).color = s.color := rfl
@[simp] theorem State.raiseEither_b1 (s : State) (c d : SubCause) : (s.raiseEither c d).b1 = s.b1 := rfl
@[simp] theorem State.raiseEither_b2 (s : State) (c d : SubCause) : (s.raiseEither c d).b2 = s.b2 := rfl
@[simp] theorem State.raiseEither_k (s : State) (c d : SubCause) : (s.raiseEither c d).k = s.k := rfl
@[simp] theorem State.raiseEither_ref (s : State) (c d : SubCause) : (s.raiseEither c d).ref = s.ref := rfl
@[simp] theorem State.raiseEither_cur (s : State) (c d : SubCause) : (s.raiseEither c d).cur = s.cur := rfl
@[simp] theorem State.raiseEither_tot (s : State) (c d : SubCause) : (s.raiseEither c d).tot = 0 := rfl
@[simp] theorem State.raiseEither_r1 (s : State) (c d : SubCause) : (s.raiseEither c d).r1 = none := rfl
@[simp] theorem State.raiseEither_eolSeen (s : State) (c d : SubCause) : (s.raiseEither c d).eolSeen = false := rfl
@[simp] theorem State.raiseEither_rowOpen (s : State) (c d : SubCause) : (s.raiseEither c d).rowOpen = false := rfl
@[simp] theorem State.raiseEither_call (s : State) (c d : SubCause) : (s.raiseEither c d).call = s.call := rfl
@[simp] theorem State.raiseEither_cmds (s : State) (c d : SubCause) : (s.raiseEither c d).cmds = s.cmds := rfl
@[simp] theorem State.raiseEither_resp (s : State) (c d : SubCause) : (s.raiseEither c d).resp = s.resp := rfl
@[simp] theorem State.raiseEither_free (s : State) (c d : SubCause) : (s.raiseEither c d).free = s.free + 1 := rfl

/-! ### respond -/

@[simp] theorem State.respond_rd (s : State) (r : Response) : (s.respond r).rd = s.rd := rfl
@[simp] theorem State.respond_wr (s : State) (r : Response) : (s.respond r).wr = s.wr := rfl
@[simp] theorem State.respond_src (s : State) (r : Response) : (s.respond r).src = s.src := rfl
@[simp] theorem State.respond_srcLen (s : State) (r : Response) : (s.respond r).srcLen = s.srcLen := rfl
@[simp] theorem State.respond_ras (s : State) (r : Response) : (s.respond r).ras = s.ras := rfl
@[simp] theorem State.respond_width (s : State) (r : Response) : (s.respond r).width = s.width := rfl
@[simp] theorem State.respond_height (s : State) (r : Response) : (s.respond r).height = s.height := rfl
@[simp] theorem State.respond_fill (s : State) (r : Response) : (s.respond r).fill = s.fill := rfl
@[simp] theorem State.respond_mixed (s : State) (r : Response) : (s.respond r).mixed = s.mixed := rfl
@[simp] theorem State.respond_stage (s : State) (r : Response) : (s.respond r).stage = s.stage := rfl
@[simp] theorem State.respond_err (s : State) (r : Response) : (s.respond r).err = s.err := rfl
@[simp] theorem State.respond_sub (s : State) (r : Response) : (s.respond r).sub = s.sub := rfl
@[simp] theorem State.respond_row (s : State) (r : Response) : (s.respond r).row = s.row := rfl
@[simp] theorem State.respond_a0 (s : State) (r : Response) : (s.respond r).a0 = s.a0 := rfl
@[simp] theorem State.respond_color (s : State) (r : Response) : (s.respond r).color = s.color := rfl
@[simp] theorem State.respond_b1 (s : State) (r : Response) : (s.respond r).b1 = s.b1 := rfl
@[simp] theorem State.respond_b2 (s : State) (r : Response) : (s.respond r).b2 = s.b2 := rfl
@[simp] theorem State.respond_k (s : State) (r : Response) : (s.respond r).k = s.k := rfl
@[simp] theorem State.respond_ref (s : State) (r : Response) : (s.respond r).ref = s.ref := rfl
@[simp] theorem State.respond_cur (s : State) (r : Response) : (s.respond r).cur = s.cur := rfl
@[simp] theorem State.respond_tot (s : State) (r : Response) : (s.respond r).tot = s.tot := rfl
@[simp] theorem State.respond_r1 (s : State) (r : Response) : (s.respond r).r1 = s.r1 := rfl
@[simp] theorem State.respond_eolSeen (s : State) (r : Response) : (s.respond r).eolSeen = s.eolSeen := rfl
@[simp] theorem State.respond_rowOpen (s : State) (r : Response) : (s.respond r).rowOpen = s.rowOpen := rfl
@[simp] theorem State.respond_call (s : State) (r : Response) : (s.respond r).call = s.call := rfl
@[simp] theorem State.respond_cmds (s : State) (r : Response) : (s.respond r).cmds = s.cmds := rfl
@[simp] theorem State.respond_resp (s : State) (r : Response) : (s.respond r).resp = r := rfl
@[simp] theorem State.respond_free (s : State) (r : Response) : (s.respond r).free = s.free := rfl

/-! ### addRun -/

@[simp] theorem State.addRun_rd (s : State) (n : Nat) : (s.addRun n).rd = s.rd := rfl
@[simp] theorem State.addRun_wr (s : State) (n : Nat) : (s.addRun n).wr = s.wr := rfl
@[simp] theorem State.addRun_src (s : State) (n : Nat) : (s.addRun n).src = s.src := rfl
@[simp] theorem State.addRun_srcLen (s : State) (n : Nat) : (s.addRun n).srcLen = s.srcLen := rfl
@[simp] theorem State.addRun_ras (s : State) (n : Nat) : (s.addRun n).ras = s.ras := rfl
@[simp] theorem State.addRun_width (s : State) (n : Nat) : (s.addRun n).width = s.width := rfl
@[simp] theorem State.addRun_height (s : State) (n : Nat) : (s.addRun n).height = s.height := rfl
@[simp] theorem State.addRun_fill (s : State) (n : Nat) : (s.addRun n).fill = s.fill := rfl
@[simp] theorem State.addRun_mixed (s : State) (n : Nat) : (s.addRun n).mixed = s.mixed := rfl
@[simp] theorem State.addRun_stage (s : State) (n : Nat) : (s.addRun n).stage = s.stage := rfl
@[simp] theorem State.addRun_err (s : State) (n : Nat) : (s.addRun n).err = s.err := rfl
@[simp] theorem State.addRun_sub (s : State) (n : Nat) : (s.addRun n).sub = s.sub := rfl
@[simp] theorem State.addRun_row (s : State) (n : Nat) : (s.addRun n).row = s.row := rfl
@[simp] theorem State.addRun_a0 (s : State) (n : Nat) : (s.addRun n).a0 = s.a0 := rfl
@[simp] theorem State.addRun_color (s : State) (n : Nat) : (s.addRun n).color = s.color := rfl
@[simp] theorem State.addRun_b1 (s : State) (n : Nat) : (s.addRun n).b1 = s.b1 := rfl
@[simp] theorem State.addRun_b2 (s : State) (n : Nat) : (s.addRun n).b2 = s.b2 := rfl
@[simp] theorem State.addRun_k (s : State) (n : Nat) : (s.addRun n).k = s.k := rfl
@[simp] theorem State.addRun_ref (s : State) (n : Nat) : (s.addRun n).ref = s.ref := rfl
@[simp] theorem State.addRun_cur (s : State) (n : Nat) : (s.addRun n).cur = s.cur := rfl
@[simp] theorem State.addRun_tot (s : State) (n : Nat) : (s.addRun n).tot = s.tot + n := rfl
@[simp] theorem State.addRun_r1 (s : State) (n : Nat) : (s.addRun n).r1 = s.r1 := rfl
@[simp] theorem State.addRun_eolSeen (s : State) (n : Nat) : (s.addRun n).eolSeen = s.eolSeen := rfl
@[simp] theorem State.addRun_rowOpen (s : State) (n : Nat) : (s.addRun n).rowOpen = s.rowOpen := rfl
@[simp] theorem State.addRun_call (s : State) (n : Nat) : (s.addRun n).call = s.call := rfl
@[simp] theorem State.addRun_cmds (s : State) (n : Nat) : (s.addRun n).cmds = s.cmds := rfl
@[simp] theorem State.addRun_resp (s : State) (n : Nat) : (s.addRun n).resp = s.resp := rfl
@[simp] theorem State.addRun_free (s : State) (n : Nat) : (s.addRun n).free = s.free := rfl

/-! ### latchB -/

@[simp] theorem State.latchB_rd (s : State) : s.latchB.rd = s.rd := rfl
@[simp] theorem State.latchB_wr (s : State) : s.latchB.wr = s.wr := rfl
@[simp] theorem State.latchB_src (s : State) : s.latchB.src = s.src := rfl
@[simp] theorem State.latchB_srcLen (s : State) : s.latchB.srcLen = s.srcLen := rfl
@[simp] theorem State.latchB_ras (s : State) : s.latchB.ras = s.ras := rfl
@[simp] theorem State.latchB_width (s : State) : s.latchB.width = s.width := rfl
@[simp] theorem State.latchB_height (s : State) : s.latchB.height = s.height := rfl
@[simp] theorem State.latchB_fill (s : State) : s.latchB.fill = s.fill := rfl
@[simp] theorem State.latchB_mixed (s : State) : s.latchB.mixed = s.mixed := rfl
@[simp] theorem State.latchB_stage (s : State) : s.latchB.stage = s.stage := rfl
@[simp] theorem State.latchB_err (s : State) : s.latchB.err = s.err := rfl
@[simp] theorem State.latchB_sub (s : State) : s.latchB.sub = s.sub := rfl
@[simp] theorem State.latchB_row (s : State) : s.latchB.row = s.row := rfl
@[simp] theorem State.latchB_a0 (s : State) : s.latchB.a0 = s.a0 := rfl
@[simp] theorem State.latchB_color (s : State) : s.latchB.color = s.color := rfl
@[simp] theorem State.latchB_b1 (s : State) : s.latchB.b1 = (findB s.width s.ref s.a0 s.color).1 := rfl
@[simp] theorem State.latchB_b2 (s : State) : s.latchB.b2 = (findB s.width s.ref s.a0 s.color).2 := rfl
@[simp] theorem State.latchB_k (s : State) : s.latchB.k = s.k := rfl
@[simp] theorem State.latchB_ref (s : State) : s.latchB.ref = s.ref := rfl
@[simp] theorem State.latchB_cur (s : State) : s.latchB.cur = s.cur := rfl
@[simp] theorem State.latchB_tot (s : State) : s.latchB.tot = s.tot := rfl
@[simp] theorem State.latchB_r1 (s : State) : s.latchB.r1 = s.r1 := rfl
@[simp] theorem State.latchB_eolSeen (s : State) : s.latchB.eolSeen = s.eolSeen := rfl
@[simp] theorem State.latchB_rowOpen (s : State) : s.latchB.rowOpen = s.rowOpen := rfl
@[simp] theorem State.latchB_call (s : State) : s.latchB.call = s.call := rfl
@[simp] theorem State.latchB_cmds (s : State) : s.latchB.cmds = s.cmds := rfl
@[simp] theorem State.latchB_resp (s : State) : s.latchB.resp = s.resp := rfl
@[simp] theorem State.latchB_free (s : State) : s.latchB.free = s.free := rfl

/-! ### latchEncoder -/

@[simp] theorem State.latchEncoder_rd (s : State) : s.latchEncoder.rd = s.rd := rfl
@[simp] theorem State.latchEncoder_wr (s : State) : s.latchEncoder.wr = s.wr := rfl
@[simp] theorem State.latchEncoder_src (s : State) : s.latchEncoder.src = s.src := rfl
@[simp] theorem State.latchEncoder_srcLen (s : State) : s.latchEncoder.srcLen = s.srcLen := rfl
@[simp] theorem State.latchEncoder_ras (s : State) : s.latchEncoder.ras = s.ras := rfl
@[simp] theorem State.latchEncoder_width (s : State) : s.latchEncoder.width = s.width := rfl
@[simp] theorem State.latchEncoder_height (s : State) : s.latchEncoder.height = s.height := rfl
@[simp] theorem State.latchEncoder_fill (s : State) : s.latchEncoder.fill = s.fill := rfl
@[simp] theorem State.latchEncoder_mixed (s : State) : s.latchEncoder.mixed = s.mixed := rfl
@[simp] theorem State.latchEncoder_stage (s : State) : s.latchEncoder.stage = s.stage := rfl
@[simp] theorem State.latchEncoder_err (s : State) : s.latchEncoder.err = s.err := rfl
@[simp] theorem State.latchEncoder_sub (s : State) : s.latchEncoder.sub = s.sub := rfl
@[simp] theorem State.latchEncoder_row (s : State) : s.latchEncoder.row = s.row := rfl
@[simp] theorem State.latchEncoder_a0 (s : State) : s.latchEncoder.a0 = s.a0 := rfl
@[simp] theorem State.latchEncoder_color (s : State) : s.latchEncoder.color = s.color := rfl
@[simp] theorem State.latchEncoder_b1 (s : State) : s.latchEncoder.b1 = (findB s.width s.ref s.a0 s.color).1 := rfl
@[simp] theorem State.latchEncoder_b2 (s : State) : s.latchEncoder.b2 = (findB s.width s.ref s.a0 s.color).2 := rfl
@[simp] theorem State.latchEncoder_k (s : State) : s.latchEncoder.k = s.k := rfl
@[simp] theorem State.latchEncoder_ref (s : State) : s.latchEncoder.ref = s.ref := rfl
@[simp] theorem State.latchEncoder_cur (s : State) : s.latchEncoder.cur = s.cur := rfl
@[simp] theorem State.latchEncoder_tot (s : State) : s.latchEncoder.tot = s.tot := rfl
@[simp] theorem State.latchEncoder_r1 (s : State) : s.latchEncoder.r1 = s.r1 := rfl
@[simp] theorem State.latchEncoder_eolSeen (s : State) : s.latchEncoder.eolSeen = s.eolSeen := rfl
@[simp] theorem State.latchEncoder_rowOpen (s : State) : s.latchEncoder.rowOpen = s.rowOpen := rfl
@[simp] theorem State.latchEncoder_call (s : State) : s.latchEncoder.call = s.call := rfl
@[simp] theorem State.latchEncoder_cmds (s : State) : s.latchEncoder.cmds = s.cmds := rfl
@[simp] theorem State.latchEncoder_resp (s : State) : s.latchEncoder.resp = s.resp := rfl
@[simp] theorem State.latchEncoder_free (s : State) : s.latchEncoder.free = s.free := rfl

/-! ### beginRow -/

@[simp] theorem State.beginRow_rd (s : State) : s.beginRow.rd = if s.fill then s.rd.flush else s.rd := rfl
@[simp] theorem State.beginRow_wr (s : State) : s.beginRow.wr = s.wr := rfl
@[simp] theorem State.beginRow_src (s : State) : s.beginRow.src = s.src := rfl
@[simp] theorem State.beginRow_srcLen (s : State) : s.beginRow.srcLen = s.srcLen := rfl
@[simp] theorem State.beginRow_ras (s : State) : s.beginRow.ras = s.ras := rfl
@[simp] theorem State.beginRow_width (s : State) : s.beginRow.width = s.width := rfl
@[simp] theorem State.beginRow_height (s : State) : s.beginRow.height = s.height := rfl
@[simp] theorem State.beginRow_fill (s : State) : s.beginRow.fill = s.fill := rfl
@[simp] theorem State.beginRow_mixed (s : State) : s.beginRow.mixed = s.mixed := rfl
@[simp] theorem State.beginRow_stage (s : State) : s.beginRow.stage = s.stage := rfl
@[simp] theorem State.beginRow_err (s : State) : s.beginRow.err = s.err := rfl
@[simp] theorem State.beginRow_sub (s : State) : s.beginRow.sub = s.sub := rfl
@[simp] theorem State.beginRow_row (s : State) : s.beginRow.row = s.row := rfl
@[simp] theorem State.beginRow_a0 (s : State) : s.beginRow.a0 = -1 := rfl
@[simp] theorem State.beginRow_color (s : State) : s.beginRow.color = .white := rfl
@[simp] theorem State.beginRow_b1 (s : State) : s.beginRow.b1 = s.b1 := rfl
@[simp] theorem State.beginRow_b2 (s : State) : s.beginRow.b2 = s.b2 := rfl
@[simp] theorem State.beginRow_k (s : State) : s.beginRow.k = s.k := rfl
@[simp] theorem State.beginRow_ref (s : State) : s.beginRow.ref = s.ref := rfl
@[simp] theorem State.beginRow_cur (s : State) : s.beginRow.cur = [] := rfl
@[simp] theorem State.beginRow_tot (s : State) : s.beginRow.tot = 0 := rfl
@[simp] theorem State.beginRow_r1 (s : State) : s.beginRow.r1 = none := rfl
@[simp] theorem State.beginRow_eolSeen (s : State) : s.beginRow.eolSeen = s.eolSeen := rfl
@[simp] theorem State.beginRow_rowOpen (s : State) : s.beginRow.rowOpen = s.rowOpen := rfl
@[simp] theorem State.beginRow_call (s : State) : s.beginRow.call = s.call := rfl
@[simp] theorem State.beginRow_cmds (s : State) : s.beginRow.cmds = s.cmds := rfl
@[simp] theorem State.beginRow_resp (s : State) : s.beginRow.resp = s.resp := rfl
@[simp] theorem State.beginRow_free (s : State) : s.beginRow.free = s.free := rfl

/-! ### freshCall -/

@[simp] theorem State.freshCall_rd (s : State) : s.freshCall.rd = Cursor.fresh s.rd.order := rfl
@[simp] theorem State.freshCall_wr (s : State) : s.freshCall.wr = BitWriter.fresh s.wr.order := rfl
@[simp] theorem State.freshCall_src (s : State) : s.freshCall.src = s.src := rfl
@[simp] theorem State.freshCall_srcLen (s : State) : s.freshCall.srcLen = s.srcLen := rfl
@[simp] theorem State.freshCall_ras (s : State) : s.freshCall.ras = s.ras := rfl
@[simp] theorem State.freshCall_width (s : State) : s.freshCall.width = s.width := rfl
@[simp] theorem State.freshCall_height (s : State) : s.freshCall.height = s.height := rfl
@[simp] theorem State.freshCall_fill (s : State) : s.freshCall.fill = s.fill := rfl
@[simp] theorem State.freshCall_mixed (s : State) : s.freshCall.mixed = s.mixed := rfl
@[simp] theorem State.freshCall_stage (s : State) : s.freshCall.stage = .idle := rfl
@[simp] theorem State.freshCall_err (s : State) : s.freshCall.err = .none := rfl
@[simp] theorem State.freshCall_sub (s : State) : s.freshCall.sub = none := rfl
@[simp] theorem State.freshCall_row (s : State) : s.freshCall.row = 0 := rfl
@[simp] theorem State.freshCall_a0 (s : State) : s.freshCall.a0 = -1 := rfl
@[simp] theorem State.freshCall_color (s : State) : s.freshCall.color = .white := rfl
@[simp] theorem State.freshCall_b1 (s : State) : s.freshCall.b1 = 0 := rfl
@[simp] theorem State.freshCall_b2 (s : State) : s.freshCall.b2 = 0 := rfl
@[simp] theorem State.freshCall_k (s : State) : s.freshCall.k = .zero := rfl
@[simp] theorem State.freshCall_ref (s : State) : s.freshCall.ref = [] := rfl
@[simp] theorem State.freshCall_cur (s : State) : s.freshCall.cur = [] := rfl
@[simp] theorem State.freshCall_tot (s : State) : s.freshCall.tot = 0 := rfl
@[simp] theorem State.freshCall_r1 (s : State) : s.freshCall.r1 = none := rfl
@[simp] theorem State.freshCall_eolSeen (s : State) : s.freshCall.eolSeen = false := rfl
@[simp] theorem State.freshCall_rowOpen (s : State) : s.freshCall.rowOpen = false := rfl
@[simp] theorem State.freshCall_call (s : State) : s.freshCall.call = s.call := rfl
@[simp] theorem State.freshCall_cmds (s : State) : s.freshCall.cmds = s.cmds := rfl
@[simp] theorem State.freshCall_resp (s : State) : s.freshCall.resp = s.resp := rfl
@[simp] theorem State.freshCall_free (s : State) : s.freshCall.free = s.free := rfl

/-! ### endRow -/

@[simp] theorem State.endRow_rd (s : State) : s.endRow.rd = s.rd := rfl
@[simp] theorem State.endRow_wr (s : State) : s.endRow.wr = s.wr := rfl
@[simp] theorem State.endRow_src (s : State) : s.endRow.src = s.src := rfl
@[simp] theorem State.endRow_srcLen (s : State) : s.endRow.srcLen = s.srcLen := rfl
@[simp] theorem State.endRow_ras (s : State) : s.endRow.ras = s.ras.writeBytes (s.row * rowBytes s.width) (fromChangingElements s.cur s.width) := rfl
@[simp] theorem State.endRow_width (s : State) : s.endRow.width = s.width := rfl
@[simp] theorem State.endRow_height (s : State) : s.endRow.height = s.height := rfl
@[simp] theorem State.endRow_fill (s : State) : s.endRow.fill = s.fill := rfl
@[simp] theorem State.endRow_mixed (s : State) : s.endRow.mixed = s.mixed := rfl
@[simp] theorem State.endRow_stage (s : State) : s.endRow.stage = if ((s.row + 1 : Nat) : Int) = s.height then .done else .rowStart := rfl
@[simp] theorem State.endRow_err (s : State) : s.endRow.err = s.err := rfl
@[simp] theorem State.endRow_sub (s : State) : s.endRow.sub = s.sub := rfl
@[simp] theorem State.endRow_row (s : State) : s.endRow.row = s.row + 1 := rfl
@[simp] theorem State.endRow_a0 (s : State) : s.endRow.a0 = s.a0 := rfl
@[simp] theorem State.endRow_color (s : State) : s.endRow.color = s.color := rfl
@[simp] theorem State.endRow_b1 (s : State) : s.endRow.b1 = s.b1 := rfl
@[simp] theorem State.endRow_b2 (s : State) : s.endRow.b2 = s.b2 := rfl
@[simp] theorem State.endRow_k (s : State) : s.endRow.k = s.k := rfl
@[simp] theorem State.endRow_ref (s : State) : s.endRow.ref = s.cur := rfl
@[simp] theorem State.endRow_cur (s : State) : s.endRow.cur = s.cur := rfl
@[simp] theorem State.endRow_tot (s : State) : s.endRow.tot = s.tot := rfl
@[simp] theorem State.endRow_r1 (s : State) : s.endRow.r1 = s.r1 := rfl
@[simp] theorem State.endRow_eolSeen (s : State) : s.endRow.eolSeen = s.eolSeen := rfl
@[simp] theorem State.endRow_rowOpen (s : State) : s.endRow.rowOpen = s.rowOpen := rfl
@[simp] theorem State.endRow_call (s : State) : s.endRow.call = s.call := rfl
@[simp] theorem State.endRow_cmds (s : State) : s.endRow.cmds = s.cmds := rfl
@[simp] theorem State.endRow_resp (s : State) : s.endRow.resp = s.resp := rfl
@[simp] theorem State.endRow_free (s : State) : s.endRow.free = s.free := rfl

/-! ### emitWords -/

@[simp] theorem State.emitWords_rd (s : State) (ws : List Instr) : (s.emitWords ws).rd = s.rd := rfl
@[simp] theorem State.emitWords_wr (s : State) (ws : List Instr) : (s.emitWords ws).wr = s.wr.emit (encodeAll ws) := rfl
@[simp] theorem State.emitWords_src (s : State) (ws : List Instr) : (s.emitWords ws).src = s.src := rfl
@[simp] theorem State.emitWords_srcLen (s : State) (ws : List Instr) : (s.emitWords ws).srcLen = s.srcLen := rfl
@[simp] theorem State.emitWords_ras (s : State) (ws : List Instr) : (s.emitWords ws).ras = s.ras := rfl
@[simp] theorem State.emitWords_width (s : State) (ws : List Instr) : (s.emitWords ws).width = s.width := rfl
@[simp] theorem State.emitWords_height (s : State) (ws : List Instr) : (s.emitWords ws).height = s.height := rfl
@[simp] theorem State.emitWords_fill (s : State) (ws : List Instr) : (s.emitWords ws).fill = s.fill := rfl
@[simp] theorem State.emitWords_mixed (s : State) (ws : List Instr) : (s.emitWords ws).mixed = s.mixed := rfl
@[simp] theorem State.emitWords_stage (s : State) (ws : List Instr) : (s.emitWords ws).stage = s.stage := rfl
@[simp] theorem State.emitWords_err (s : State) (ws : List Instr) : (s.emitWords ws).err = s.err := rfl
@[simp] theorem State.emitWords_sub (s : State) (ws : List Instr) : (s.emitWords ws).sub = s.sub := rfl
@[simp] theorem State.emitWords_row (s : State) (ws : List Instr) : (s.emitWords ws).row = s.row := rfl
@[simp] theorem State.emitWords_a0 (s : State) (ws : List Instr) : (s.emitWords ws).a0 = s.a0 := rfl
@[simp] theorem State.emitWords_color (s : State) (ws : List Instr) : (s.emitWords ws).color = s.color := rfl
@[simp] theorem State.emitWords_b1 (s : State) (ws : List Instr) : (s.emitWords ws).b1 = s.b1 := rfl
@[simp] theorem State.emitWords_b2 (s : State) (ws : List Instr) : (s.emitWords ws).b2 = s.b2 := rfl
@[simp] theorem State.emitWords_k (s : State) (ws : List Instr) : (s.emitWords ws).k = s.k := rfl
@[simp] theorem State.emitWords_ref (s : State) (ws : List Instr) : (s.emitWords ws).ref = s.ref := rfl
@[simp] theorem State.emitWords_cur (s : State) (ws : List Instr) : (s.emitWords ws).cur = s.cur := rfl
@[simp] theorem State.emitWords_tot (s : State) (ws : List Instr) : (s.emitWords ws).tot = s.tot := rfl
@[simp] theorem State.emitWords_r1 (s : State) (ws : List Instr) : (s.emitWords ws).r1 = s.r1 := rfl
@[simp] theorem State.emitWords_eolSeen (s : State) (ws : List Instr) : (s.emitWords ws).eolSeen = s.eolSeen := rfl
@[simp] theorem State.emitWords_rowOpen (s : State) (ws : List Instr) : (s.emitWords ws).rowOpen = s.rowOpen := rfl
@[simp] theorem State.emitWords_call (s : State) (ws : List Instr) : (s.emitWords ws).call = s.call := rfl
@[simp] theorem State.emitWords_cmds (s : State) (ws : List Instr) : (s.emitWords ws).cmds = s.cmds := rfl
@[simp] theorem State.emitWords_resp (s : State) (ws : List Instr) : (s.emitWords ws).resp = s.resp := rfl
@[simp] theorem State.emitWords_free (s : State) (ws : List Instr) : (s.emitWords ws).free = s.free := rfl

end Sys2Proof.Machine
end

