-- ==== Sys2Proof/Laws/Ops.lean ====
section
/-!
SUPPORT. For each shared operation of the machine one lemma that says all it can do: the cursor, the writer,
the record of changing elements, the meanings' shared operations, and a step.
-/

namespace Sys2Proof.Machine

/-! ### BitCursor -/

theorem Cursor.takeField_value {c c' : Cursor} {n v : Nat} (h : c.takeField n = .value v c') :
    n ≤ c.rem ∧ v = topField c.cache c.rem n ∧ c' = { c with rem := c.rem - n } := by
  unfold Cursor.takeField at h
  split at h
  · cases h
  · cases h; exact ⟨by omega, rfl, rfl⟩

theorem Cursor.subByteRead_value {c c' : Cursor} {src : Memory} {srcLen n v : Nat}
    (h : c.subByteRead src srcLen n = .value v c') :
    (c.rem ≠ 0 ∧ n ≤ c.rem ∧ v = topField c.cache c.rem n ∧ c' = { c with rem := c.rem - n }) ∨
    (c.rem = 0 ∧ c.bytesRead < srcLen ∧ ∃ b, src.read c.bytesRead = some b ∧ n ≤ 8 ∧ v = topField b 8 n ∧
      c' = { c with cache := b, bytesRead := c.bytesRead + 1, rem := 8 - n }) := by
  unfold Cursor.subByteRead at h
  split at h
  next h0 =>
    split at h
    · cases h
    next h1 =>
      split at h
      next b hb =>
        obtain ⟨hn, hv, hc⟩ := Cursor.takeField_value h
        exact .inr ⟨h0, by omega, b, hb, hn, hv, hc⟩
      next => cases h
  next h0 => exact .inl ⟨h0, Cursor.takeField_value h⟩

theorem Cursor.byteRead_value {c c' : Cursor} {src : Memory} {srcLen v : Nat}
    (h : c.byteRead src srcLen = .value v c') :
    c.rem = 0 ∧ c.bytesRead < srcLen ∧ ∃ b, src.read c.bytesRead = some b ∧ v = b.toNat ∧
      c' = { c with bytesRead := c.bytesRead + 1 } := by
  unfold Cursor.byteRead at h
  split at h
  · cases h
  next h0 =>
    split at h
    · cases h
    next h1 =>
      split at h
      next b hb => cases h; exact ⟨by omega, by omega, b, hb, rfl, rfl⟩
      next => cases h

theorem Cursor.multiByteRead_value {c c' : Cursor} {src : Memory} {srcLen m v : Nat}
    (h : c.multiByteRead src srcLen m = .value v c') :
    c.rem = 0 ∧ c.bytesRead + m ≤ srcLen ∧ ∃ bs, src.readBytes c.bytesRead m = some bs ∧
      v = orderedValue c.order bs ∧ c' = { c with bytesRead := c.bytesRead + m } := by
  unfold Cursor.multiByteRead at h
  split at h
  · cases h
  next h0 =>
    split at h
    · cases h
    next h1 =>
      split at h
      next bs hb => cases h; exact ⟨by omega, by omega, bs, hb, rfl, rfl⟩
      next => cases h

/-- `READBITS 1` is the sub-byte read of one bit. -/
theorem Cursor.readBits_one (c : Cursor) (src : Memory) (srcLen : Nat) :
    c.readBits src srcLen 1 = c.subByteRead src srcLen 1 := rfl

/-- A bit read moves the cursor and nothing else. -/
theorem State.nextBit_bit {s s' : State} {b : Bool} (h : s.nextBit = .bit b s') :
    ∃ v c, s.rd.subByteRead s.src s.srcLen 1 = .value v c ∧ b = (v == 1) ∧ s' = { s with rd := c } := by
  unfold State.nextBit at h
  rw [Cursor.readBits_one] at h
  split at h
  next v c hv => cases h; exact ⟨v, c, hv, rfl, rfl⟩
  next => cases h
  next => cases h

/-! ### Reading one code word -/

/-- Reading a code word moves the bit source by bit reads alone, so whatever every bit read keeps, it keeps. -/
theorem decodeLoop_keeps {σ : Type} {next : σ → NextBit σ} {P : σ → Prop}
    (hP : ∀ s b s', next s = .bit b s' → P s → P s') {ctx : Context} {n : Nat} {code : Bits} {s : σ} (hs : P s) :
    match decodeLoop next ctx n code s with
    | .word _ s' => P s'
    | .noRow s' => P s'
    | .truncated s' => P s'
    | .absent => True := by
  induction n generalizing code s with
  | zero => exact hs
  | succ n ih =>
    unfold decodeLoop
    cases hn : next s with
    | bit b s' =>
      simp only
      cases hm : matchRow ctx (code ++ [b]) with
      | some i => exact hP s b s' hn hs
      | none => exact ih (hP s b s' hn hs)
    | endOfStream => exact hs
    | absent => trivial

/-- The instruction that is read is a row of the table in force. -/
theorem decodeLoop_mem {σ : Type} {next : σ → NextBit σ} {ctx : Context} {n : Nat} {code : Bits} {s s' : σ}
    {i : Instr} (h : decodeLoop next ctx n code s = .word i s') : i ∈ tableOf ctx := by
  induction n generalizing code s with
  | zero => cases h
  | succ n ih =>
    unfold decodeLoop at h
    split at h
    next b t _ =>
      split at h
      next j hm =>
        cases h
        unfold matchRow at hm
        split at hm
        · cases hm
        · exact List.mem_of_find?_eq_some hm
      next => exact ih h
    next => cases h
    next => cases h

/-! ### BitWriter -/

theorem BitWriter.subByteWrite_ok {w w' : BitWriter} {n : Nat} {v : Int} (h : w.subByteWrite n v = .ok w') :
    n ≤ 8 - w.cnt ∧
      ((w.cnt + n = 8 ∧ w' = (w.place n v).completeByte) ∨ (w.cnt + n ≠ 8 ∧ w' = w.place n v)) := by
  unfold BitWriter.subByteWrite at h
  split at h
  · cases h
  next h0 =>
    split at h
    next h1 => cases h; exact ⟨by omega, .inl ⟨h1, rfl⟩⟩
    next h1 => cases h; exact ⟨by omega, .inr ⟨h1, rfl⟩⟩

theorem BitWriter.alignedWrite_ok {w w' : BitWriter} {m : Nat} {v : Int} (h : w.alignedWrite m v = .ok w') :
    w.cnt = 0 ∧ w' = w.append (orderedBytes w.order m (lowField (8 * m) v)) := by
  unfold BitWriter.alignedWrite at h
  split at h
  · cases h
  next h0 => cases h; exact ⟨by omega, rfl⟩

/-! ### Recording -/

/-- `record` keeps the line for the sentinel and appends an element right of the last one. -/
theorem record_some {width e : Int} {cur c : List Int} (h : record width cur e = some c) :
    (e = width ∧ c = cur) ∨ (e ≠ width ∧ (∀ l, cur.getLast? = some l → l < e) ∧ c = cur ++ [e]) := by
  unfold record at h
  split at h
  next h0 => cases h; exact .inl ⟨h0, rfl⟩
  next h0 =>
    split at h
    next l hl =>
      split at h
      · cases h
      next h1 =>
        cases h
        exact .inr ⟨h0, fun l' hl' => by rw [hl] at hl'; cases hl'; omega, rfl⟩
    next hl =>
      cases h
      exact .inr ⟨h0, fun l' hl' => absurd (hl.symm.trans hl') (by simp), rfl⟩

/-! ### Shared meanings -/

theorem terminating_next {c : Color} {n : Nat} {s t : State} (h : terminating c n s = .next t) :
    s.runColor = some c ∧ t = s.finishRun (s.tot + n) := by
  unfold terminating at h
  split at h
  next h0 => cases h; exact ⟨h0, rfl⟩
  · cases h

theorem makeup_next {c : Color} {n : Nat} {s t : State} (h : makeup c n s = .next t) :
    s.runColor = some c ∧ t = s.addRun n := by
  unfold makeup at h
  split at h
  next h0 => cases h; exact ⟨h0, rfl⟩
  · cases h

theorem extendedMakeup_next {n : Nat} {s t : State} (h : extendedMakeup n s = .next t) :
    (∃ c, s.runColor = some c) ∧ t = s.addRun n := by
  unfold extendedMakeup at h
  split at h
  next h0 => cases h; exact ⟨Option.isSome_iff_exists.1 h0, rfl⟩
  · cases h

theorem vertical_next {o : Offset} {s t : State} (h : vertical o s = .next t) :
    (s.stage = .readMode ∧ t = { s.latchB with k := o, stage := .vert }) ∨
    (s.stage = .vert ∧ t = s.vertAction o) := by
  unfold vertical at h
  split at h
  next h0 => cases h; exact .inl ⟨h0, rfl⟩
  next h0 => cases h; exact .inr ⟨h0, rfl⟩
  · cases h

theorem readCommand_next {n : Int} {s t : State} (h : readCommand n s = .next t) :
    s.stage = .idle ∧
      ((∃ v c, s.rd.readBits s.src s.srcLen n = .value v c ∧ t = ({ s with rd := c } : State).respond (.value v)) ∨
       (∃ k, s.rd.readBits s.src s.srcLen n = .error k ∧ t = s.respond (.error k))) := by
  unfold readCommand at h
  split at h
  next h0 =>
    refine ⟨h0, ?_⟩
    split at h
    next v c hv => cases h; exact .inl ⟨v, c, hv, rfl⟩
    next k hk => cases h; exact .inr ⟨k, hk, rfl⟩
    next => cases h
  · cases h

theorem writeCommand_next {n v : Int} {s t : State} (h : writeCommand n v s = .next t) :
    s.stage = .idle ∧
      ((∃ w, s.wr.writeBits n v = .ok w ∧ t = ({ s with wr := w } : State).respond .ok) ∨
       (∃ k, s.wr.writeBits n v = .error k ∧ t = s.respond (.error k))) := by
  unfold writeCommand at h
  split at h
  next h0 =>
    refine ⟨h0, ?_⟩
    split at h
    next w hw => cases h; exact .inl ⟨w, hw, rfl⟩
    next k hk => cases h; exact .inr ⟨k, hk, rfl⟩
  · cases h

/-- What the `PASS` step answers. -/
theorem State.passAction_cases (s : State) :
    (s.b2 ≤ s.a0 ∧ s.passAction = s.raiseData .stall) ∨
    (s.a0 < s.b2 ∧ s.passAction = { s with a0 := s.b2, stage := nextStage s.width s.b2 }) := by
  unfold State.passAction stalled
  split
  next h => exact .inl ⟨by simpa using h, rfl⟩
  next h => exact .inr ⟨by simpa using h, rfl⟩

/-- What the `VERT` step answers. -/
theorem State.vertAction_cases (s : State) (o : Offset) :
    (∃ c d, s.vertAction o = s.raiseEither c d) ∨ (∃ c, s.vertAction o = s.raiseData c) ∨
    (∃ c, record s.width s.cur (s.b1 + offsetValue o) = some c ∧ s.a0 < s.b1 + offsetValue o ∧
      s.b1 + offsetValue o ≤ s.width ∧
      s.vertAction o = { s.flipColor with cur := c, a0 := s.b1 + offsetValue o, stage := nextStage s.width (s.b1 + offsetValue o) }) := by
  unfold State.vertAction
  simp only
  split
  next => exact .inl ⟨_, _, rfl⟩
  next =>
    split
    next => exact .inr (.inl ⟨_, rfl⟩)
    next h1 =>
      split
      next => exact .inr (.inl ⟨_, rfl⟩)
      next h2 =>
        split
        next => exact .inr (.inl ⟨_, rfl⟩)
        next c hc => exact .inr (.inr ⟨c, hc, by simpa [stalled] using h2, by omega, rfl⟩)

/-- What the end of a Horizontal answers. -/
theorem State.finishHorizontal_cases (s : State) (n m : Nat) :
    (∃ c d, s.finishHorizontal n m = s.raiseEither c d) ∨ (∃ c, s.finishHorizontal n m = s.raiseData c) ∨
    (∃ c1 c2, record s.width s.cur (startColumn s.a0 + n) = some c1 ∧
      record s.width c1 (startColumn s.a0 + n + m) = some c2 ∧ startColumn s.a0 + n + m ≤ s.width ∧
      s.a0 < startColumn s.a0 + n + m ∧
      s.finishHorizontal n m = { s with cur := c2, a0 := startColumn s.a0 + n + m, stage := nextStage s.width (startColumn s.a0 + n + m), tot := 0, r1 := none }) := by
  unfold State.finishHorizontal
  simp only
  split
  next =>
    split
    next => exact .inl ⟨_, _, rfl⟩
    next => exact .inr (.inl ⟨_, rfl⟩)
  next h0 =>
    split
    next => exact .inr (.inl ⟨_, rfl⟩)
    next c1 h1 =>
      split
      next => exact .inr (.inl ⟨_, rfl⟩)
      next c2 h2 =>
        split
        next => exact .inr (.inl ⟨_, rfl⟩)
        next h3 => exact .inr (.inr ⟨c1, c2, h1, h2, by omega, by simpa [stalled] using h3, rfl⟩)

/-- What the end of a one-dimensional run answers. -/
theorem State.finishOneD_cases (s : State) (n : Nat) :
    (∃ c, s.finishOneD n = s.raiseData c) ∨
    (∃ c, record s.width s.cur (s.a0 + n) = some c ∧ s.a0 + n ≤ s.width ∧
      s.finishOneD n = { s.flipColor with cur := c, a0 := s.a0 + n, stage := nextStageOneD s.width (s.a0 + n), tot := 0 }) := by
  unfold State.finishOneD
  simp only
  split
  next => exact .inl ⟨_, rfl⟩
  next h0 =>
    split
    next => exact .inl ⟨_, rfl⟩
    next c hc => exact .inr ⟨c, hc, by omega, rfl⟩

/-! ### A step -/

/-- What fetching a code word answers. -/
theorem fetchWord_cases (ctx : Context) (s : State) :
    (∃ i s', decodeWith State.nextBit ctx s = .word i s' ∧ fetchWord ctx s = .run i s') ∨
    (∃ s', decodeWith State.nextBit ctx s = .noRow s' ∧ fetchWord ctx s = .go (s'.raiseNoRow ctx)) ∨
    (∃ s', decodeWith State.nextBit ctx s = .truncated s' ∧ fetchWord ctx s = .go (s'.raiseData .truncated)) ∨
    (decodeWith State.nextBit ctx s = .absent ∧ fetchWord ctx s = .fault .absentByte) := by
  unfold fetchWord
  cases h : decodeWith State.nextBit ctx s with
  | word i s' => exact .inl ⟨i, s', rfl, rfl⟩
  | noRow s' => exact .inr (.inl ⟨s', rfl, rfl⟩)
  | truncated s' => exact .inr (.inr (.inl ⟨s', rfl, rfl⟩))
  | absent => exact .inr (.inr (.inr ⟨rfl, rfl⟩))

/-- A step that answers a next state runs the fetched instruction or goes where the fetch says. -/
theorem step_next {s t : State} (h : step s = .next t) :
    (∃ i s', fetch s = .run i s' ∧ exec i s' = .next t) ∨ fetch s = .go t := by
  unfold step at h
  split at h
  next i s' hf => exact .inl ⟨i, s', hf, h⟩
  next s' hf => cases h; exact .inr hf
  next => cases h
  next => cases h

/-- The model's own run agrees with the host's. -/
theorem run_eq_core_run (n : Nat) (s : State) : Host.Core.run Sys2Proof.core n s = run n s := by
  induction n generalizing s with
  | zero => rfl
  | succ n ih =>
    refine (Host.Core.run.eq_2 Sys2Proof.core s n).trans ?_
    unfold run
    have h : Sys2Proof.core.step s = step s := rfl
    generalize hx : step s = x at *
    rw [h]
    cases x with
    | next t => exact ih t
    | fault f => rfl
    | refused r => rfl

end Sys2Proof.Machine
end

