-- ==== Sys2Proof/Laws/PerInstr.lean ====
section
/-!
SUPPORT. Statements about every instruction as syntax, one lemma for each constructor.
-/

namespace Sys2Proof.Laws

/-- The length of an instruction's bits lies in the range that 30_encoding.md R100 gives its class; a command
has no bits (R122). -/
def WordLength.Statement (i : Instr) : Prop :=
  (lengthRange i.format).1 ≤ (encode i).length ∧ (encode i).length ≤ (lengthRange i.format).2

theorem WordLength.v0 : WordLength.Statement .v0 := ⟨by decide, by decide⟩
theorem WordLength.h : WordLength.Statement .h := ⟨by decide, by decide⟩
theorem WordLength.p : WordLength.Statement .p := ⟨by decide, by decide⟩
theorem WordLength.vr1 : WordLength.Statement .vr1 := ⟨by decide, by decide⟩
theorem WordLength.vl1 : WordLength.Statement .vl1 := ⟨by decide, by decide⟩
theorem WordLength.vr2 : WordLength.Statement .vr2 := ⟨by decide, by decide⟩
theorem WordLength.vl2 : WordLength.Statement .vl2 := ⟨by decide, by decide⟩
theorem WordLength.vr3 : WordLength.Statement .vr3 := ⟨by decide, by decide⟩
theorem WordLength.vl3 : WordLength.Statement .vl3 := ⟨by decide, by decide⟩
theorem WordLength.wt0 : WordLength.Statement .wt0 := ⟨by decide, by decide⟩
theorem WordLength.wt1 : WordLength.Statement .wt1 := ⟨by decide, by decide⟩
theorem WordLength.wt2 : WordLength.Statement .wt2 := ⟨by decide, by decide⟩
theorem WordLength.wt3 : WordLength.Statement .wt3 := ⟨by decide, by decide⟩
theorem WordLength.wt4 : WordLength.Statement .wt4 := ⟨by decide, by decide⟩
theorem WordLength.wt5 : WordLength.Statement .wt5 := ⟨by decide, by decide⟩
theorem WordLength.wt6 : WordLength.Statement .wt6 := ⟨by decide, by decide⟩
theorem WordLength.wt7 : WordLength.Statement .wt7 := ⟨by decide, by decide⟩
theorem WordLength.wt8 : WordLength.Statement .wt8 := ⟨by decide, by decide⟩
theorem WordLength.wt9 : WordLength.Statement .wt9 := ⟨by decide, by decide⟩
theorem WordLength.wt10 : WordLength.Statement .wt10 := ⟨by decide, by decide⟩
theorem WordLength.wt11 : WordLength.Statement .wt11 := ⟨by decide, by decide⟩
theorem WordLength.wt12 : WordLength.Statement .wt12 := ⟨by decide, by decide⟩
theorem WordLength.wt13 : WordLength.Statement .wt13 := ⟨by decide, by decide⟩
theorem WordLength.wt14 : WordLength.Statement .wt14 := ⟨by decide, by decide⟩
theorem WordLength.wt15 : WordLength.Statement .wt15 := ⟨by decide, by decide⟩
theorem WordLength.wt16 : WordLength.Statement .wt16 := ⟨by decide, by decide⟩
theorem WordLength.wt17 : WordLength.Statement .wt17 := ⟨by decide, by decide⟩
theorem WordLength.wt18 : WordLength.Statement .wt18 := ⟨by decide, by decide⟩
theorem WordLength.wt19 : WordLength.Statement .wt19 := ⟨by decide, by decide⟩
theorem WordLength.wt20 : WordLength.Statement .wt20 := ⟨by decide, by decide⟩
theorem WordLength.wt21 : WordLength.Statement .wt21 := ⟨by decide, by decide⟩
theorem WordLength.wt22 : WordLength.Statement .wt22 := ⟨by decide, by decide⟩
theorem WordLength.wt23 : WordLength.Statement .wt23 := ⟨by decide, by decide⟩
theorem WordLength.wt24 : WordLength.Statement .wt24 := ⟨by decide, by decide⟩
theorem WordLength.wt25 : WordLength.Statement .wt25 := ⟨by decide, by decide⟩
theorem WordLength.wt26 : WordLength.Statement .wt26 := ⟨by decide, by decide⟩
theorem WordLength.wt27 : WordLength.Statement .wt27 := ⟨by decide, by decide⟩
theorem WordLength.wt28 : WordLength.Statement .wt28 := ⟨by decide, by decide⟩
theorem WordLength.wt29 : WordLength.Statement .wt29 := ⟨by decide, by decide⟩
theorem WordLength.wt30 : WordLength.Statement .wt30 := ⟨by decide, by decide⟩
theorem WordLength.wt31 : WordLength.Statement .wt31 := ⟨by decide, by decide⟩
theorem WordLength.wt32 : WordLength.Statement .wt32 := ⟨by decide, by decide⟩
theorem WordLength.wt33 : WordLength.Statement .wt33 := ⟨by decide, by decide⟩
theorem WordLength.wt34 : WordLength.Statement .wt34 := ⟨by decide, by decide⟩
theorem WordLength.wt35 : WordLength.Statement .wt35 := ⟨by decide, by decide⟩
theorem WordLength.wt36 : WordLength.Statement .wt36 := ⟨by decide, by decide⟩
theorem WordLength.wt37 : WordLength.Statement .wt37 := ⟨by decide, by decide⟩
theorem WordLength.wt38 : WordLength.Statement .wt38 := ⟨by decide, by decide⟩
theorem WordLength.wt39 : WordLength.Statement .wt39 := ⟨by decide, by decide⟩
theorem WordLength.wt40 : WordLength.Statement .wt40 := ⟨by decide, by decide⟩
theorem WordLength.wt41 : WordLength.Statement .wt41 := ⟨by decide, by decide⟩
theorem WordLength.wt42 : WordLength.Statement .wt42 := ⟨by decide, by decide⟩
theorem WordLength.wt43 : WordLength.Statement .wt43 := ⟨by decide, by decide⟩
theorem WordLength.wt44 : WordLength.Statement .wt44 := ⟨by decide, by decide⟩
theorem WordLength.wt45 : WordLength.Statement .wt45 := ⟨by decide, by decide⟩
theorem WordLength.wt46 : WordLength.Statement .wt46 := ⟨by decide, by decide⟩
theorem WordLength.wt47 : WordLength.Statement .wt47 := ⟨by decide, by decide⟩
theorem WordLength.wt48 : WordLength.Statement .wt48 := ⟨by decide, by decide⟩
theorem WordLength.wt49 : WordLength.Statement .wt49 := ⟨by decide, by decide⟩
theorem WordLength.wt50 : WordLength.Statement .wt50 := ⟨by decide, by decide⟩
theorem WordLength.wt51 : WordLength.Statement .wt51 := ⟨by decide, by decide⟩
theorem WordLength.wt52 : WordLength.Statement .wt52 := ⟨by decide, by decide⟩
theorem WordLength.wt53 : WordLength.Statement .wt53 := ⟨by decide, by decide⟩
theorem WordLength.wt54 : WordLength.Statement .wt54 := ⟨by decide, by decide⟩
theorem WordLength.wt55 : WordLength.Statement .wt55 := ⟨by decide, by decide⟩
theorem WordLength.wt56 : WordLength.Statement .wt56 := ⟨by decide, by decide⟩
theorem WordLength.wt57 : WordLength.Statement .wt57 := ⟨by decide, by decide⟩
theorem WordLength.wt58 : WordLength.Statement .wt58 := ⟨by decide, by decide⟩
theorem WordLength.wt59 : WordLength.Statement .wt59 := ⟨by decide, by decide⟩
theorem WordLength.wt60 : WordLength.Statement .wt60 := ⟨by decide, by decide⟩
theorem WordLength.wt61 : WordLength.Statement .wt61 := ⟨by decide, by decide⟩
theorem WordLength.wt62 : WordLength.Statement .wt62 := ⟨by decide, by decide⟩
theorem WordLength.wt63 : WordLength.Statement .wt63 := ⟨by decide, by decide⟩
theorem WordLength.wm64 : WordLength.Statement .wm64 := ⟨by decide, by decide⟩
theorem WordLength.wm128 : WordLength.Statement .wm128 := ⟨by decide, by decide⟩
theorem WordLength.wm192 : WordLength.Statement .wm192 := ⟨by decide, by decide⟩
theorem WordLength.wm256 : WordLength.Statement .wm256 := ⟨by decide, by decide⟩
theorem WordLength.wm320 : WordLength.Statement .wm320 := ⟨by decide, by decide⟩
theorem WordLength.wm384 : WordLength.Statement .wm384 := ⟨by decide, by decide⟩
theorem WordLength.wm448 : WordLength.Statement .wm448 := ⟨by decide, by decide⟩
theorem WordLength.wm512 : WordLength.Statement .wm512 := ⟨by decide, by decide⟩
theorem WordLength.wm576 : WordLength.Statement .wm576 := ⟨by decide, by decide⟩
theorem WordLength.wm640 : WordLength.Statement .wm640 := ⟨by decide, by decide⟩
theorem WordLength.wm704 : WordLength.Statement .wm704 := ⟨by decide, by decide⟩
theorem WordLength.wm768 : WordLength.Statement .wm768 := ⟨by decide, by decide⟩
theorem WordLength.wm832 : WordLength.Statement .wm832 := ⟨by decide, by decide⟩
theorem WordLength.wm896 : WordLength.Statement .wm896 := ⟨by decide, by decide⟩
theorem WordLength.wm960 : WordLength.Statement .wm960 := ⟨by decide, by decide⟩
theorem WordLength.wm1024 : WordLength.Statement .wm1024 := ⟨by decide, by decide⟩
theorem WordLength.wm1088 : WordLength.Statement .wm1088 := ⟨by decide, by decide⟩
theorem WordLength.wm1152 : WordLength.Statement .wm1152 := ⟨by decide, by decide⟩
theorem WordLength.wm1216 : WordLength.Statement .wm1216 := ⟨by decide, by decide⟩
theorem WordLength.wm1280 : WordLength.Statement .wm1280 := ⟨by decide, by decide⟩
theorem WordLength.wm1344 : WordLength.Statement .wm1344 := ⟨by decide, by decide⟩
theorem WordLength.wm1408 : WordLength.Statement .wm1408 := ⟨by decide, by decide⟩
theorem WordLength.wm1472 : WordLength.Statement .wm1472 := ⟨by decide, by decide⟩
theorem WordLength.wm1536 : WordLength.Statement .wm1536 := ⟨by decide, by decide⟩
theorem WordLength.wm1600 : WordLength.Statement .wm1600 := ⟨by decide, by decide⟩
theorem WordLength.wm1664 : WordLength.Statement .wm1664 := ⟨by decide, by decide⟩
theorem WordLength.wm1728 : WordLength.Statement .wm1728 := ⟨by decide, by decide⟩
theorem WordLength.bt0 : WordLength.Statement .bt0 := ⟨by decide, by decide⟩
theorem WordLength.bt1 : WordLength.Statement .bt1 := ⟨by decide, by decide⟩
theorem WordLength.bt2 : WordLength.Statement .bt2 := ⟨by decide, by decide⟩
theorem WordLength.bt3 : WordLength.Statement .bt3 := ⟨by decide, by decide⟩
theorem WordLength.bt4 : WordLength.Statement .bt4 := ⟨by decide, by decide⟩
theorem WordLength.bt5 : WordLength.Statement .bt5 := ⟨by decide, by decide⟩
theorem WordLength.bt6 : WordLength.Statement .bt6 := ⟨by decide, by decide⟩
theorem WordLength.bt7 : WordLength.Statement .bt7 := ⟨by decide, by decide⟩
theorem WordLength.bt8 : WordLength.Statement .bt8 := ⟨by decide, by decide⟩
theorem WordLength.bt9 : WordLength.Statement .bt9 := ⟨by decide, by decide⟩
theorem WordLength.bt10 : WordLength.Statement .bt10 := ⟨by decide, by decide⟩
theorem WordLength.bt11 : WordLength.Statement .bt11 := ⟨by decide, by decide⟩
theorem WordLength.bt12 : WordLength.Statement .bt12 := ⟨by decide, by decide⟩
theorem WordLength.bt13 : WordLength.Statement .bt13 := ⟨by decide, by decide⟩
theorem WordLength.bt14 : WordLength.Statement .bt14 := ⟨by decide, by decide⟩
theorem WordLength.bt15 : WordLength.Statement .bt15 := ⟨by decide, by decide⟩
theorem WordLength.bt16 : WordLength.Statement .bt16 := ⟨by decide, by decide⟩
theorem WordLength.bt17 : WordLength.Statement .bt17 := ⟨by decide, by decide⟩
theorem WordLength.bt18 : WordLength.Statement .bt18 := ⟨by decide, by decide⟩
theorem WordLength.bt19 : WordLength.Statement .bt19 := ⟨by decide, by decide⟩
theorem WordLength.bt20 : WordLength.Statement .bt20 := ⟨by decide, by decide⟩
theorem WordLength.bt21 : WordLength.Statement .bt21 := ⟨by decide, by decide⟩
theorem WordLength.bt22 : WordLength.Statement .bt22 := ⟨by decide, by decide⟩
theorem WordLength.bt23 : WordLength.Statement .bt23 := ⟨by decide, by decide⟩
theorem WordLength.bt24 : WordLength.Statement .bt24 := ⟨by decide, by decide⟩
theorem WordLength.bt25 : WordLength.Statement .bt25 := ⟨by decide, by decide⟩
theorem WordLength.bt26 : WordLength.Statement .bt26 := ⟨by decide, by decide⟩
theorem WordLength.bt27 : WordLength.Statement .bt27 := ⟨by decide, by decide⟩
theorem WordLength.bt28 : WordLength.Statement .bt28 := ⟨by decide, by decide⟩
theorem WordLength.bt29 : WordLength.Statement .bt29 := ⟨by decide, by decide⟩
theorem WordLength.bt30 : WordLength.Statement .bt30 := ⟨by decide, by decide⟩
theorem WordLength.bt31 : WordLength.Statement .bt31 := ⟨by decide, by decide⟩
theorem WordLength.bt32 : WordLength.Statement .bt32 := ⟨by decide, by decide⟩
theorem WordLength.bt33 : WordLength.Statement .bt33 := ⟨by decide, by decide⟩
theorem WordLength.bt34 : WordLength.Statement .bt34 := ⟨by decide, by decide⟩
theorem WordLength.bt35 : WordLength.Statement .bt35 := ⟨by decide, by decide⟩
theorem WordLength.bt36 : WordLength.Statement .bt36 := ⟨by decide, by decide⟩
theorem WordLength.bt37 : WordLength.Statement .bt37 := ⟨by decide, by decide⟩
theorem WordLength.bt38 : WordLength.Statement .bt38 := ⟨by decide, by decide⟩
theorem WordLength.bt39 : WordLength.Statement .bt39 := ⟨by decide, by decide⟩
theorem WordLength.bt40 : WordLength.Statement .bt40 := ⟨by decide, by decide⟩
theorem WordLength.bt41 : WordLength.Statement .bt41 := ⟨by decide, by decide⟩
theorem WordLength.bt42 : WordLength.Statement .bt42 := ⟨by decide, by decide⟩
theorem WordLength.bt43 : WordLength.Statement .bt43 := ⟨by decide, by decide⟩
theorem WordLength.bt44 : WordLength.Statement .bt44 := ⟨by decide, by decide⟩
theorem WordLength.bt45 : WordLength.Statement .bt45 := ⟨by decide, by decide⟩
theorem WordLength.bt46 : WordLength.Statement .bt46 := ⟨by decide, by decide⟩
theorem WordLength.bt47 : WordLength.Statement .bt47 := ⟨by decide, by decide⟩
theorem WordLength.bt48 : WordLength.Statement .bt48 := ⟨by decide, by decide⟩
theorem WordLength.bt49 : WordLength.Statement .bt49 := ⟨by decide, by decide⟩
theorem WordLength.bt50 : WordLength.Statement .bt50 := ⟨by decide, by decide⟩
theorem WordLength.bt51 : WordLength.Statement .bt51 := ⟨by decide, by decide⟩
theorem WordLength.bt52 : WordLength.Statement .bt52 := ⟨by decide, by decide⟩
theorem WordLength.bt53 : WordLength.Statement .bt53 := ⟨by decide, by decide⟩
theorem WordLength.bt54 : WordLength.Statement .bt54 := ⟨by decide, by decide⟩
theorem WordLength.bt55 : WordLength.Statement .bt55 := ⟨by decide, by decide⟩
theorem WordLength.bt56 : WordLength.Statement .bt56 := ⟨by decide, by decide⟩
theorem WordLength.bt57 : WordLength.Statement .bt57 := ⟨by decide, by decide⟩
theorem WordLength.bt58 : WordLength.Statement .bt58 := ⟨by decide, by decide⟩
theorem WordLength.bt59 : WordLength.Statement .bt59 := ⟨by decide, by decide⟩
theorem WordLength.bt60 : WordLength.Statement .bt60 := ⟨by decide, by decide⟩
theorem WordLength.bt61 : WordLength.Statement .bt61 := ⟨by decide, by decide⟩
theorem WordLength.bt62 : WordLength.Statement .bt62 := ⟨by decide, by decide⟩
theorem WordLength.bt63 : WordLength.Statement .bt63 := ⟨by decide, by decide⟩
theorem WordLength.bm64 : WordLength.Statement .bm64 := ⟨by decide, by decide⟩
theorem WordLength.bm128 : WordLength.Statement .bm128 := ⟨by decide, by decide⟩
theorem WordLength.bm192 : WordLength.Statement .bm192 := ⟨by decide, by decide⟩
theorem WordLength.bm256 : WordLength.Statement .bm256 := ⟨by decide, by decide⟩
theorem WordLength.bm320 : WordLength.Statement .bm320 := ⟨by decide, by decide⟩
theorem WordLength.bm384 : WordLength.Statement .bm384 := ⟨by decide, by decide⟩
theorem WordLength.bm448 : WordLength.Statement .bm448 := ⟨by decide, by decide⟩
theorem WordLength.bm512 : WordLength.Statement .bm512 := ⟨by decide, by decide⟩
theorem WordLength.bm576 : WordLength.Statement .bm576 := ⟨by decide, by decide⟩
theorem WordLength.bm640 : WordLength.Statement .bm640 := ⟨by decide, by decide⟩
theorem WordLength.bm704 : WordLength.Statement .bm704 := ⟨by decide, by decide⟩
theorem WordLength.bm768 : WordLength.Statement .bm768 := ⟨by decide, by decide⟩
theorem WordLength.bm832 : WordLength.Statement .bm832 := ⟨by decide, by decide⟩
theorem WordLength.bm896 : WordLength.Statement .bm896 := ⟨by decide, by decide⟩
theorem WordLength.bm960 : WordLength.Statement .bm960 := ⟨by decide, by decide⟩
theorem WordLength.bm1024 : WordLength.Statement .bm1024 := ⟨by decide, by decide⟩
theorem WordLength.bm1088 : WordLength.Statement .bm1088 := ⟨by decide, by decide⟩
theorem WordLength.bm1152 : WordLength.Statement .bm1152 := ⟨by decide, by decide⟩
theorem WordLength.bm1216 : WordLength.Statement .bm1216 := ⟨by decide, by decide⟩
theorem WordLength.bm1280 : WordLength.Statement .bm1280 := ⟨by decide, by decide⟩
theorem WordLength.bm1344 : WordLength.Statement .bm1344 := ⟨by decide, by decide⟩
theorem WordLength.bm1408 : WordLength.Statement .bm1408 := ⟨by decide, by decide⟩
theorem WordLength.bm1472 : WordLength.Statement .bm1472 := ⟨by decide, by decide⟩
theorem WordLength.bm1536 : WordLength.Statement .bm1536 := ⟨by decide, by decide⟩
theorem WordLength.bm1600 : WordLength.Statement .bm1600 := ⟨by decide, by decide⟩
theorem WordLength.bm1664 : WordLength.Statement .bm1664 := ⟨by decide, by decide⟩
theorem WordLength.bm1728 : WordLength.Statement .bm1728 := ⟨by decide, by decide⟩
theorem WordLength.xm1792 : WordLength.Statement .xm1792 := ⟨by decide, by decide⟩
theorem WordLength.xm1856 : WordLength.Statement .xm1856 := ⟨by decide, by decide⟩
theorem WordLength.xm1920 : WordLength.Statement .xm1920 := ⟨by decide, by decide⟩
theorem WordLength.xm1984 : WordLength.Statement .xm1984 := ⟨by decide, by decide⟩
theorem WordLength.xm2048 : WordLength.Statement .xm2048 := ⟨by decide, by decide⟩
theorem WordLength.xm2112 : WordLength.Statement .xm2112 := ⟨by decide, by decide⟩
theorem WordLength.xm2176 : WordLength.Statement .xm2176 := ⟨by decide, by decide⟩
theorem WordLength.xm2240 : WordLength.Statement .xm2240 := ⟨by decide, by decide⟩
theorem WordLength.xm2304 : WordLength.Statement .xm2304 := ⟨by decide, by decide⟩
theorem WordLength.xm2368 : WordLength.Statement .xm2368 := ⟨by decide, by decide⟩
theorem WordLength.xm2432 : WordLength.Statement .xm2432 := ⟨by decide, by decide⟩
theorem WordLength.xm2496 : WordLength.Statement .xm2496 := ⟨by decide, by decide⟩
theorem WordLength.xm2560 : WordLength.Statement .xm2560 := ⟨by decide, by decide⟩
theorem WordLength.eol : WordLength.Statement .eol := ⟨by decide, by decide⟩
theorem WordLength.tag0 : WordLength.Statement .tag0 := ⟨by decide, by decide⟩
theorem WordLength.tag1 : WordLength.Statement .tag1 := ⟨by decide, by decide⟩
theorem WordLength.readBits1 : WordLength.Statement .readBits1 := ⟨by decide, by decide⟩
theorem WordLength.readBits2 : WordLength.Statement .readBits2 := ⟨by decide, by decide⟩
theorem WordLength.readBits3 : WordLength.Statement .readBits3 := ⟨by decide, by decide⟩
theorem WordLength.readBits4 : WordLength.Statement .readBits4 := ⟨by decide, by decide⟩
theorem WordLength.readBits5 : WordLength.Statement .readBits5 := ⟨by decide, by decide⟩
theorem WordLength.readBits6 : WordLength.Statement .readBits6 := ⟨by decide, by decide⟩
theorem WordLength.readBits7 : WordLength.Statement .readBits7 := ⟨by decide, by decide⟩
theorem WordLength.readBits8 : WordLength.Statement .readBits8 := ⟨by decide, by decide⟩
theorem WordLength.readBits16 : WordLength.Statement .readBits16 := ⟨by decide, by decide⟩
theorem WordLength.readBits24 : WordLength.Statement .readBits24 := ⟨by decide, by decide⟩
theorem WordLength.readBits32 : WordLength.Statement .readBits32 := ⟨by decide, by decide⟩
theorem WordLength.flush : WordLength.Statement .flush := ⟨by decide, by decide⟩
theorem WordLength.bytesRead : WordLength.Statement .bytesRead := ⟨by decide, by decide⟩
theorem WordLength.writeBits1 (v : Int) : WordLength.Statement (.writeBits1 v) := ⟨Nat.le_refl 0, Nat.le_refl 0⟩
theorem WordLength.writeBits2 (v : Int) : WordLength.Statement (.writeBits2 v) := ⟨Nat.le_refl 0, Nat.le_refl 0⟩
theorem WordLength.writeBits3 (v : Int) : WordLength.Statement (.writeBits3 v) := ⟨Nat.le_refl 0, Nat.le_refl 0⟩
theorem WordLength.writeBits4 (v : Int) : WordLength.Statement (.writeBits4 v) := ⟨Nat.le_refl 0, Nat.le_refl 0⟩
theorem WordLength.writeBits5 (v : Int) : WordLength.Statement (.writeBits5 v) := ⟨Nat.le_refl 0, Nat.le_refl 0⟩
theorem WordLength.writeBits6 (v : Int) : WordLength.Statement (.writeBits6 v) := ⟨Nat.le_refl 0, Nat.le_refl 0⟩
theorem WordLength.writeBits7 (v : Int) : WordLength.Statement (.writeBits7 v) := ⟨Nat.le_refl 0, Nat.le_refl 0⟩
theorem WordLength.writeBits8 (v : Int) : WordLength.Statement (.writeBits8 v) := ⟨Nat.le_refl 0, Nat.le_refl 0⟩
theorem WordLength.writeBits16 (v : Int) : WordLength.Statement (.writeBits16 v) := ⟨Nat.le_refl 0, Nat.le_refl 0⟩
theorem WordLength.writeBits24 (v : Int) : WordLength.Statement (.writeBits24 v) := ⟨Nat.le_refl 0, Nat.le_refl 0⟩
theorem WordLength.writeBits32 (v : Int) : WordLength.Statement (.writeBits32 v) := ⟨Nat.le_refl 0, Nat.le_refl 0⟩
theorem WordLength.pad : WordLength.Statement .pad := ⟨by decide, by decide⟩

end Sys2Proof.Laws
end

