-- ==== Sys2Proof/Tests/Slice0.lean ====
section
/-!
SUPPORT. Tests: the words of the code tables written out bit by bit, ill-formed terms, single steps on small
states with results worked out in spec/95_test_vectors.md, and one witness for the hypotheses of each statement.
-/

-- One theorem at a time: elaborating them all at once needs more threads than the sandbox has.
set_option Elab.async false

namespace Sys2Proof.Tests

open Sys2Proof Sys2Proof.Machine

/-! ### Helpers -/

/-- A bit string written out as digits. -/
def digits (ds : List Nat) : Bits := ds.map (· == 1)

/-- The digits read, in the context, as exactly that instruction. -/
def readsAs (ctx : Context) (p : Instr × List Nat) : Bool :=
  match decode ctx (digits p.2) with
  | .word i rest => i == p.1 && rest == []
  | _ => false

/-- No row of the context reads the digits, and none of them is left. -/
def readsNothing (ctx : Context) (ds : List Nat) : Bool :=
  match decode ctx (digits ds) with
  | .noRow rest => rest == []
  | _ => false

/-- The digits end inside a word of the context. -/
def readsTruncated (ctx : Context) (ds : List Nat) : Bool :=
  match decode ctx (digits ds) with
  | .truncated rest => rest == []
  | _ => false

/-- The state a result goes to. -/
def nextOf : Result → Option State
  | .next t => some t
  | _ => none

/-- The refusal a result ends in. -/
def refusalOf : Result → Option Refusal
  | .refused r => some r
  | _ => none

/-- The fault a result ends in. -/
def faultOf : Result → Option Fault
  | .fault f => some f
  | _ => none

/-- `a0`, `color`, `cur` and `STATE` after a result, the columns of the tables of 95_test_vectors.md 2.5. -/
def view (r : Result) : Option (Int × Color × List Int × Stage) :=
  (nextOf r).map (fun t => (t.a0, t.color, t.cur, t.stage))

/-- `STATE` and `ERR` after a result. -/
def status (r : Result) : Option (Stage × ErrKind) := (nextOf r).map (fun t => (t.stage, t.err))

/-- The answer, `bytesRead` and `rem` after a cursor command. -/
def readView (r : Result) : Option (Response × Nat × Nat) :=
  (nextOf r).map (fun t => (t.resp, t.rd.bytesRead, t.rd.rem))

/-- The answer, the bytes of `SINK`, `acc` and `cnt` after a writer command. -/
def writeView (r : Result) : Option (Response × List Byte × Byte × Nat) :=
  (nextOf r).map (fun t => (t.resp, t.wr.sink.map Prod.snd, t.wr.acc, t.wr.cnt))

/-- A state inside a row of eight columns. -/
def row8 (stage : Stage) (ref cur : List Int) (a0 : Int) (color : Color) : State :=
  { State.reset with width := 8, height := 1, stage := stage, ref := ref, cur := cur, a0 := a0, color := color }

/-- The same with `b1` and `b2` latched, as `READ_MODE` leaves them. -/
def latched (stage : Stage) (ref cur : List Int) (a0 : Int) (color : Color) : State :=
  (row8 stage ref cur a0 color).latchB

/-- A state with these bytes as its source. -/
def onBytes (s : State) (bytes : List Byte) : State :=
  { s with src := Memory.ofBytes bytes, srcLen := bytes.length }

/-- A standalone cursor over these bytes. -/
def cursorOver (bytes : List Byte) (order : ByteOrder) (bytesRead rem : Nat) (cache : Byte) : State :=
  { onBytes State.reset bytes with
    call := .standalone, rd := { order := order, cache := cache, rem := rem, bytesRead := bytesRead } }

/-- A standalone writer with these bytes written. -/
def writerWith (bytes : List Byte) (order : ByteOrder) (acc : Byte) (cnt : Nat) : State :=
  { State.reset with
    call := .standalone
    wr := { order := order, acc := acc, cnt := cnt, sinkLen := bytes.length, sink := Memory.ofBytes bytes } }

/-! ### Decoding: every row of the code tables, written out from 30_encoding.md -/

/-- 30_encoding.md R103, every row. -/
theorem test_decode_modes :
    ([(.v0, [1]), (.h, [0,0,1]), (.p, [0,0,0,1]), (.vr1, [0,1,1]), (.vl1, [0,1,0]), (.vr2, [0,0,0,0,1,1]),
      (.vl2, [0,0,0,0,1,0]), (.vr3, [0,0,0,0,0,1,1]), (.vl3, [0,0,0,0,0,1,0])] : List (Instr × List Nat)).all
      (readsAs .mode) = true := by decide +kernel

/-- 30_encoding.md R105, R106. -/
theorem test_decode_framing :
    readsAs .eol (.eol, [0,0,0,0,0,0,0,0,0,0,0,1]) = true ∧ readsAs .tag (.tag0, [0]) = true ∧
      readsAs .tag (.tag1, [1]) = true := by decide +kernel

/-- 30_encoding.md R108, every row. -/
theorem test_decode_white_terminating :
    (([(.wt0, [0,0,1,1,0,1,0,1]), (.wt1, [0,0,0,1,1,1]), (.wt2, [0,1,1,1]),
      (.wt3, [1,0,0,0]), (.wt4, [1,0,1,1]), (.wt5, [1,1,0,0]),
      (.wt6, [1,1,1,0]), (.wt7, [1,1,1,1]), (.wt8, [1,0,0,1,1]),
      (.wt9, [1,0,1,0,0]), (.wt10, [0,0,1,1,1]), (.wt11, [0,1,0,0,0]),
      (.wt12, [0,0,1,0,0,0]), (.wt13, [0,0,0,0,1,1]), (.wt14, [1,1,0,1,0,0])] : List (Instr × List Nat)) ++
    ([(.wt15, [1,1,0,1,0,1]), (.wt16, [1,0,1,0,1,0]), (.wt17, [1,0,1,0,1,1]),
      (.wt18, [0,1,0,0,1,1,1]), (.wt19, [0,0,0,1,1,0,0]), (.wt20, [0,0,0,1,0,0,0]),
      (.wt21, [0,0,1,0,1,1,1]), (.wt22, [0,0,0,0,0,1,1]), (.wt23, [0,0,0,0,1,0,0]),
      (.wt24, [0,1,0,1,0,0,0]), (.wt25, [0,1,0,1,0,1,1]), (.wt26, [0,0,1,0,0,1,1]),
      (.wt27, [0,1,0,0,1,0,0]), (.wt28, [0,0,1,1,0,0,0]), (.wt29, [0,0,0,0,0,0,1,0])] : List (Instr × List Nat)) ++
    ([(.wt30, [0,0,0,0,0,0,1,1]), (.wt31, [0,0,0,1,1,0,1,0]), (.wt32, [0,0,0,1,1,0,1,1]),
      (.wt33, [0,0,0,1,0,0,1,0]), (.wt34, [0,0,0,1,0,0,1,1]), (.wt35, [0,0,0,1,0,1,0,0]),
      (.wt36, [0,0,0,1,0,1,0,1]), (.wt37, [0,0,0,1,0,1,1,0]), (.wt38, [0,0,0,1,0,1,1,1]),
      (.wt39, [0,0,1,0,1,0,0,0]), (.wt40, [0,0,1,0,1,0,0,1]), (.wt41, [0,0,1,0,1,0,1,0]),
      (.wt42, [0,0,1,0,1,0,1,1]), (.wt43, [0,0,1,0,1,1,0,0]), (.wt44, [0,0,1,0,1,1,0,1])] : List (Instr × List Nat)) ++
    ([(.wt45, [0,0,0,0,0,1,0,0]), (.wt46, [0,0,0,0,0,1,0,1]), (.wt47, [0,0,0,0,1,0,1,0]),
      (.wt48, [0,0,0,0,1,0,1,1]), (.wt49, [0,1,0,1,0,0,1,0]), (.wt50, [0,1,0,1,0,0,1,1]),
      (.wt51, [0,1,0,1,0,1,0,0]), (.wt52, [0,1,0,1,0,1,0,1]), (.wt53, [0,0,1,0,0,1,0,0]),
      (.wt54, [0,0,1,0,0,1,0,1]), (.wt55, [0,1,0,1,1,0,0,0]), (.wt56, [0,1,0,1,1,0,0,1]),
      (.wt57, [0,1,0,1,1,0,1,0]), (.wt58, [0,1,0,1,1,0,1,1]), (.wt59, [0,1,0,0,1,0,1,0])] : List (Instr × List Nat)) ++
    ([(.wt60, [0,1,0,0,1,0,1,1]), (.wt61, [0,0,1,1,0,0,1,0]), (.wt62, [0,0,1,1,0,0,1,1]),
      (.wt63, [0,0,1,1,0,1,0,0])] : List (Instr × List Nat))).all
      (readsAs (.run .white)) = true := by decide +kernel

/-- 30_encoding.md R109, every row. -/
theorem test_decode_white_makeup :
    (([(.wm64, [1,1,0,1,1]), (.wm128, [1,0,0,1,0]), (.wm192, [0,1,0,1,1,1]),
      (.wm256, [0,1,1,0,1,1,1]), (.wm320, [0,0,1,1,0,1,1,0]), (.wm384, [0,0,1,1,0,1,1,1]),
      (.wm448, [0,1,1,0,0,1,0,0]), (.wm512, [0,1,1,0,0,1,0,1]), (.wm576, [0,1,1,0,1,0,0,0]),
      (.wm640, [0,1,1,0,0,1,1,1]), (.wm704, [0,1,1,0,0,1,1,0,0]), (.wm768, [0,1,1,0,0,1,1,0,1]),
      (.wm832, [0,1,1,0,1,0,0,1,0]), (.wm896, [0,1,1,0,1,0,0,1,1]), (.wm960, [0,1,1,0,1,0,1,0,0])] : List (Instr × List Nat)) ++
    ([(.wm1024, [0,1,1,0,1,0,1,0,1]), (.wm1088, [0,1,1,0,1,0,1,1,0]), (.wm1152, [0,1,1,0,1,0,1,1,1]),
      (.wm1216, [0,1,1,0,1,1,0,0,0]), (.wm1280, [0,1,1,0,1,1,0,0,1]), (.wm1344, [0,1,1,0,1,1,0,1,0]),
      (.wm1408, [0,1,1,0,1,1,0,1,1]), (.wm1472, [0,1,0,0,1,1,0,0,0]), (.wm1536, [0,1,0,0,1,1,0,0,1]),
      (.wm1600, [0,1,0,0,1,1,0,1,0]), (.wm1664, [0,1,1,0,0,0]), (.wm1728, [0,1,0,0,1,1,0,1,1])] : List (Instr × List Nat))).all
      (readsAs (.run .white)) = true := by decide +kernel

/-- 30_encoding.md R110, every row. -/
theorem test_decode_black_terminating :
    (([(.bt0, [0,0,0,0,1,1,0,1,1,1]), (.bt1, [0,1,0]), (.bt2, [1,1]),
      (.bt3, [1,0]), (.bt4, [0,1,1]), (.bt5, [0,0,1,1]),
      (.bt6, [0,0,1,0]), (.bt7, [0,0,0,1,1]), (.bt8, [0,0,0,1,0,1]),
      (.bt9, [0,0,0,1,0,0]), (.bt10, [0,0,0,0,1,0,0]), (.bt11, [0,0,0,0,1,0,1]),
      (.bt12, [0,0,0,0,1,1,1]), (.bt13, [0,0,0,0,0,1,0,0]), (.bt14, [0,0,0,0,0,1,1,1])] : List (Instr × List Nat)) ++
    ([(.bt15, [0,0,0,0,1,1,0,0,0]), (.bt16, [0,0,0,0,0,1,0,1,1,1]), (.bt17, [0,0,0,0,0,1,1,0,0,0]),
      (.bt18, [0,0,0,0,0,0,1,0,0,0]), (.bt19, [0,0,0,0,1,1,0,0,1,1,1]), (.bt20, [0,0,0,0,1,1,0,1,0,0,0]),
      (.bt21, [0,0,0,0,1,1,0,1,1,0,0]), (.bt22, [0,0,0,0,0,1,1,0,1,1,1]), (.bt23, [0,0,0,0,0,1,0,1,0,0,0]),
      (.bt24, [0,0,0,0,0,0,1,0,1,1,1]), (.bt25, [0,0,0,0,0,0,1,1,0,0,0]), (.bt26, [0,0,0,0,1,1,0,0,1,0,1,0]),
      (.bt27, [0,0,0,0,1,1,0,0,1,0,1,1]), (.bt28, [0,0,0,0,1,1,0,0,1,1,0,0]), (.bt29, [0,0,0,0,1,1,0,0,1,1,0,1])] : List (Instr × List Nat)) ++
    ([(.bt30, [0,0,0,0,0,1,1,0,1,0,0,0]), (.bt31, [0,0,0,0,0,1,1,0,1,0,0,1]), (.bt32, [0,0,0,0,0,1,1,0,1,0,1,0]),
      (.bt33, [0,0,0,0,0,1,1,0,1,0,1,1]), (.bt34, [0,0,0,0,1,1,0,1,0,0,1,0]), (.bt35, [0,0,0,0,1,1,0,1,0,0,1,1]),
      (.bt36, [0,0,0,0,1,1,0,1,0,1,0,0]), (.bt37, [0,0,0,0,1,1,0,1,0,1,0,1]), (.bt38, [0,0,0,0,1,1,0,1,0,1,1,0]),
      (.bt39, [0,0,0,0,1,1,0,1,0,1,1,1]), (.bt40, [0,0,0,0,0,1,1,0,1,1,0,0]), (.bt41, [0,0,0,0,0,1,1,0,1,1,0,1]),
      (.bt42, [0,0,0,0,1,1,0,1,1,0,1,0]), (.bt43, [0,0,0,0,1,1,0,1,1,0,1,1]), (.bt44, [0,0,0,0,0,1,0,1,0,1,0,0])] : List (Instr × List Nat)) ++
    ([(.bt45, [0,0,0,0,0,1,0,1,0,1,0,1]), (.bt46, [0,0,0,0,0,1,0,1,0,1,1,0]), (.bt47, [0,0,0,0,0,1,0,1,0,1,1,1]),
      (.bt48, [0,0,0,0,0,1,1,0,0,1,0,0]), (.bt49, [0,0,0,0,0,1,1,0,0,1,0,1]), (.bt50, [0,0,0,0,0,1,0,1,0,0,1,0]),
      (.bt51, [0,0,0,0,0,1,0,1,0,0,1,1]), (.bt52, [0,0,0,0,0,0,1,0,0,1,0,0]), (.bt53, [0,0,0,0,0,0,1,1,0,1,1,1]),
      (.bt54, [0,0,0,0,0,0,1,1,1,0,0,0]), (.bt55, [0,0,0,0,0,0,1,0,0,1,1,1]), (.bt56, [0,0,0,0,0,0,1,0,1,0,0,0]),
      (.bt57, [0,0,0,0,0,1,0,1,1,0,0,0]), (.bt58, [0,0,0,0,0,1,0,1,1,0,0,1]), (.bt59, [0,0,0,0,0,0,1,0,1,0,1,1])] : List (Instr × List Nat)) ++
    ([(.bt60, [0,0,0,0,0,0,1,0,1,1,0,0]), (.bt61, [0,0,0,0,0,1,0,1,1,0,1,0]), (.bt62, [0,0,0,0,0,1,1,0,0,1,1,0]),
      (.bt63, [0,0,0,0,0,1,1,0,0,1,1,1])] : List (Instr × List Nat))).all
      (readsAs (.run .black)) = true := by decide +kernel

/-- 30_encoding.md R111, every row. -/
theorem test_decode_black_makeup :
    (([(.bm64, [0,0,0,0,0,0,1,1,1,1]), (.bm128, [0,0,0,0,1,1,0,0,1,0,0,0]), (.bm192, [0,0,0,0,1,1,0,0,1,0,0,1]),
      (.bm256, [0,0,0,0,0,1,0,1,1,0,1,1]), (.bm320, [0,0,0,0,0,0,1,1,0,0,1,1]), (.bm384, [0,0,0,0,0,0,1,1,0,1,0,0]),
      (.bm448, [0,0,0,0,0,0,1,1,0,1,0,1]), (.bm512, [0,0,0,0,0,0,1,1,0,1,1,0,0]), (.bm576, [0,0,0,0,0,0,1,1,0,1,1,0,1]),
      (.bm640, [0,0,0,0,0,0,1,0,0,1,0,1,0]), (.bm704, [0,0,0,0,0,0,1,0,0,1,0,1,1]), (.bm768, [0,0,0,0,0,0,1,0,0,1,1,0,0]),
      (.bm832, [0,0,0,0,0,0,1,0,0,1,1,0,1]), (.bm896, [0,0,0,0,0,0,1,1,1,0,0,1,0]), (.bm960, [0,0,0,0,0,0,1,1,1,0,0,1,1])] : List (Instr × List Nat)) ++
    ([(.bm1024, [0,0,0,0,0,0,1,1,1,0,1,0,0]), (.bm1088, [0,0,0,0,0,0,1,1,1,0,1,0,1]), (.bm1152, [0,0,0,0,0,0,1,1,1,0,1,1,0]),
      (.bm1216, [0,0,0,0,0,0,1,1,1,0,1,1,1]), (.bm1280, [0,0,0,0,0,0,1,0,1,0,0,1,0]), (.bm1344, [0,0,0,0,0,0,1,0,1,0,0,1,1]),
      (.bm1408, [0,0,0,0,0,0,1,0,1,0,1,0,0]), (.bm1472, [0,0,0,0,0,0,1,0,1,0,1,0,1]), (.bm1536, [0,0,0,0,0,0,1,0,1,1,0,1,0]),
      (.bm1600, [0,0,0,0,0,0,1,0,1,1,0,1,1]), (.bm1664, [0,0,0,0,0,0,1,1,0,0,1,0,0]), (.bm1728, [0,0,0,0,0,0,1,1,0,0,1,0,1])] : List (Instr × List Nat))).all
      (readsAs (.run .black)) = true := by decide +kernel

/-- 30_encoding.md R112, every row. -/
theorem test_decode_extended_makeup :
    (([(.xm1792, [0,0,0,0,0,0,0,1,0,0,0]), (.xm1856, [0,0,0,0,0,0,0,1,1,0,0]), (.xm1920, [0,0,0,0,0,0,0,1,1,0,1]),
      (.xm1984, [0,0,0,0,0,0,0,1,0,0,1,0]), (.xm2048, [0,0,0,0,0,0,0,1,0,0,1,1]), (.xm2112, [0,0,0,0,0,0,0,1,0,1,0,0]),
      (.xm2176, [0,0,0,0,0,0,0,1,0,1,0,1]), (.xm2240, [0,0,0,0,0,0,0,1,0,1,1,0]), (.xm2304, [0,0,0,0,0,0,0,1,0,1,1,1]),
      (.xm2368, [0,0,0,0,0,0,0,1,1,1,0,0]), (.xm2432, [0,0,0,0,0,0,0,1,1,1,0,1]), (.xm2496, [0,0,0,0,0,0,0,1,1,1,1,0]),
      (.xm2560, [0,0,0,0,0,0,0,1,1,1,1,1])] : List (Instr × List Nat))).all
      (readsAs (.run .white)) = true := by decide +kernel

/-- The same words in a black run (30_encoding.md R101, R112). -/
theorem test_decode_extended_makeup_black :
    (([(.xm1792, [0,0,0,0,0,0,0,1,0,0,0]), (.xm1856, [0,0,0,0,0,0,0,1,1,0,0]), (.xm1920, [0,0,0,0,0,0,0,1,1,0,1]),
      (.xm1984, [0,0,0,0,0,0,0,1,0,0,1,0]), (.xm2048, [0,0,0,0,0,0,0,1,0,0,1,1]), (.xm2112, [0,0,0,0,0,0,0,1,0,1,0,0]),
      (.xm2176, [0,0,0,0,0,0,0,1,0,1,0,1]), (.xm2240, [0,0,0,0,0,0,0,1,0,1,1,0]), (.xm2304, [0,0,0,0,0,0,0,1,0,1,1,1]),
      (.xm2368, [0,0,0,0,0,0,0,1,1,1,0,0]), (.xm2432, [0,0,0,0,0,0,0,1,1,1,0,1]), (.xm2496, [0,0,0,0,0,0,0,1,1,1,1,0]),
      (.xm2560, [0,0,0,0,0,0,0,1,1,1,1,1])] : List (Instr × List Nat))).all
      (readsAs (.run .black)) = true := by decide +kernel

/-- Illegal bits: S4 (the extension word of T.6 and zeros in a mode position), RC30, RC31, RC33, RC34 (zeros and
`EOL` in a run position), S4 (a marker after extra zeros). -/
theorem test_decode_illegal :
    readsNothing .mode [0,0,0,0,0,0,1] = true ∧ readsNothing .mode [0,0,0,0,0,0,0] = true ∧
    readsNothing (.run .white) [0,0,0,0,0,0,0,0,0,0,0,0] = true ∧
    readsNothing (.run .white) [0,0,0,0,0,0,0,0,0,0,0,1] = true ∧
    readsNothing (.run .black) [0,0,0,0,0,0,0,0,0,0,0,0,0] = true ∧
    readsNothing (.run .black) [0,0,0,0,0,0,0,0,0,0,0,1,0] = true ∧
    readsNothing .eol [0,0,0,0,0,0,0,0,0,0,0,0] = true := by decide +kernel

/-- A word cut short: RC32, RC37, M41. -/
theorem test_decode_truncated :
    readsTruncated (.run .white) [0,0,0,0,0,0,0,0] = true ∧ readsTruncated (.run .white) [] = true ∧
    readsTruncated .mode [0,0,0,0,0,0] = true := by decide +kernel

/-- RC36: the byte 35 is `WT0` in a white run and begins with `BT5` in a black one. -/
theorem test_decode_colour_confusion :
    readsAs (.run .white) (.wt0, [0,0,1,1,0,1,0,1]) = true ∧ readsAs (.run .black) (.bt5, [0,0,1,1]) = true := by
  decide +kernel

/-- Bytes give their bits from the most significant on: `WM64 WT2` is `DB 80` (RC6). -/
theorem test_decode_bytes :
    (match decodeBytes (.run .white) [0xDB, 0x80] with
      | .word i rest => i == .wm64 && rest.take 4 == digits [0,1,1,1]
      | _ => false) = true := by decide +kernel

/-- The commands (30_encoding.md R122, 40_bitcursor.md R142, R152). -/
theorem test_decode_commands :
    [1, 2, 3, 4, 5, 6, 7, 8, 16, 24, 32].map (fun n => (Command.readBits n).instr) =
      [some .readBits1, some .readBits2, some .readBits3, some .readBits4, some .readBits5, some .readBits6,
        some .readBits7, some .readBits8, some .readBits16, some .readBits24, some .readBits32] ∧
    [1, 2, 3, 4, 5, 6, 7, 8, 16, 24, 32].map (fun n => (Command.writeBits n 9).instr) =
      [some (.writeBits1 9), some (.writeBits2 9), some (.writeBits3 9), some (.writeBits4 9), some (.writeBits5 9),
        some (.writeBits6 9), some (.writeBits7 9), some (.writeBits8 9), some (.writeBits16 9),
        some (.writeBits24 9), some (.writeBits32 9)] ∧
    Command.flush.instr = some .flush ∧ Command.bytesRead.instr = some .bytesRead ∧
    Command.pad.instr = some .pad := by decide +kernel

/-- A bare table word: `WT0` is 35, `BT5` begins 0011 but no 8-bit word, `BM64` needs two bytes. -/
theorem test_decode_table_word :
    decodeTableWord 8 0x35 = some .wt0 ∧ decodeTableWord 8 0xD8 = some .wm64 ∧
    decodeTableWord 16 0xC003 = some .bm64 ∧ decodeTableWord 16 0x1000 = some .eol := by decide +kernel

/-! ### Well-formedness: each check refuses an ill-formed term -/

/-- S2: the widths 15, 0 and -1 and their neighbours are not legal, in a read or in a write. -/
theorem test_ill_formed_width :
    ([15, 0, -1, 9, 10, 12, 17, 23, 25, 31, 33, 40, 64] : List Int).all (fun n =>
      !legalWidth n && !(Command.readBits n).wellFormed && !(Command.writeBits n 0).wellFormed &&
      (Command.readBits n).instr.isNone && (Command.writeBits n 0).instr.isNone) = true := by decide +kernel

/-- A code word outside its contexts, and a command in any context, are not well formed (30_encoding.md R101). -/
theorem test_ill_formed_context :
    wellFormed .mode .wt0 = false ∧ wellFormed (.run .white) .bt0 = false ∧
    wellFormed (.run .black) .wm64 = false ∧ wellFormed (.run .white) .eol = false ∧
    wellFormed .eol .tag0 = false ∧ wellFormed .tag .v0 = false ∧ wellFormed .mode .flush = false ∧
    wellFormed (.run .white) .xm1792 = true ∧ wellFormed (.run .black) .xm1792 = true := by decide +kernel

/-- A class test refuses a word of another class. -/
theorem test_ill_formed_class :
    Context.accepts .mode .whiteTerm = false ∧ Context.accepts (.run .white) .blackTerm = false ∧
    Context.accepts (.run .black) .whiteMakeup = false ∧ Context.accepts .eol .tag = false ∧
    Context.accepts .tag .eol = false ∧ Context.accepts .tag .command = false := by decide +kernel

/-- F9, E9: non-positive geometry. -/
theorem test_ill_formed_geometry :
    legalGeometry 0 1 = false ∧ legalGeometry 8 0 = false ∧ legalGeometry (-1) 5 = false ∧
    legalGeometry 1 1 = true := by decide +kernel

/-- Every row's length is in the range of its class (30_encoding.md R100). -/
theorem test_lengths :
    (modeWords ++ runWords .white ++ runWords .black ++ ([.eol, .tag0, .tag1] : List Instr)).all (fun i =>
      decide ((lengthRange i.format).1 ≤ (encode i).length) &&
      decide ((encode i).length ≤ (lengthRange i.format).2)) = true := by decide +kernel

/-! ### Mode codes, one action each (95_test_vectors.md 2.5) -/

/-- `READ_MODE` on `ref = [2, 5]`: `b1 = 2`, `b2 = 5` and what was decoded. -/
theorem test_modes_latch :
    ([(.v0, .vert, .zero), (.vr1, .vert, .right1), (.vr2, .vert, .right2), (.vr3, .vert, .right3),
      (.vl1, .vert, .left1), (.vl2, .vert, .left2), (.vl3, .vert, .left3), (.p, .pass, .zero),
      (.h, .horiz, .zero)] : List (Instr × Stage × Offset)).all (fun p =>
        (nextOf (exec p.1 (row8 .readMode [2, 5] [] (-1) .white))).map (fun t => (t.b1, t.b2, t.stage, t.k)) ==
          some (2, 5, p.2.1, p.2.2)) = true := by decide +kernel

/-- M1 to M6, M8: each action from `ref = [2, 5]` at row start. -/
theorem test_modes_act :
    (view (exec .v0 (latched .vert [2, 5] [] (-1) .white)) == some (2, .black, [2], .readMode)) &&
    (view (exec .vr1 (latched .vert [2, 5] [] (-1) .white)) == some (3, .black, [3], .readMode)) &&
    (view (exec .vr2 (latched .vert [2, 5] [] (-1) .white)) == some (4, .black, [4], .readMode)) &&
    (view (exec .vr3 (latched .vert [2, 5] [] (-1) .white)) == some (5, .black, [5], .readMode)) &&
    (view (exec .vl1 (latched .vert [2, 5] [] (-1) .white)) == some (1, .black, [1], .readMode)) &&
    (view (exec .vl2 (latched .vert [2, 5] [] (-1) .white)) == some (0, .black, [0], .readMode)) &&
    (view (exec .p (latched .pass [2, 5] [] (-1) .white)) == some (5, .white, [], .readMode)) := by decide +kernel

/-- M7, M10, M18, M20, M24: the stall guard and the range check. -/
theorem test_modes_raise :
    status (exec .vl3 (latched .vert [2, 5] [] (-1) .white)) = some (.failed, .decompressionError) ∧
    status (exec .vr1 (latched .vert [] [] (-1) .white)) = some (.failed, .decompressionError) ∧
    status (exec .vl3 (latched .vert [2, 5] [2] 2 .black)) = some (.failed, .decompressionError) ∧
    status (exec .vl1 (latched .vert [0, 3] [] (-1) .white)) = some (.failed, .decompressionError) ∧
    status (exec .vr2 (latched .vert [7] [] (-1) .white)) = some (.failed, .decompressionError) := by decide +kernel

/-- M9, M13, M14, M17, M17b, M19, M26: the sentinel, the parity of `b1` and the end of a row. -/
theorem test_modes_row_end :
    (view (exec .v0 (latched .vert [] [] (-1) .white)) == some (8, .black, [], .rowEnd)) &&
    (view (exec .vl3 (latched .vert [] [] (-1) .white)) == some (5, .black, [5], .readMode)) &&
    (view (exec .p (latched .pass [] [] (-1) .white)) == some (8, .white, [], .rowEnd)) &&
    (view (exec .v0 (latched .vert [2, 5] [2] 2 .black)) == some (5, .white, [2, 5], .readMode)) &&
    (view (exec .vr3 (latched .vert [2, 5] [2] 2 .black)) == some (8, .white, [2], .rowEnd)) &&
    (view (exec .p (latched .pass [2, 5] [2] 2 .black)) == some (8, .black, [2], .rowEnd)) &&
    (view (exec .vl2 (latched .vert [2, 5] [3, 5] 5 .white)) == some (6, .black, [3, 5, 6], .readMode)) := by decide +kernel

/-- M23: the element 3 has even index and is skipped for black. -/
theorem test_findB_parity :
    findB 8 [1, 2, 3, 4] 2 .black = (4, 8) ∧ findB 8 [2, 5] (-1) .white = (2, 5) ∧
    findB 8 [2, 5] 2 .black = (5, 8) ∧ findB 8 [] (-1) .white = (8, 8) := by decide +kernel

/-! ### Run words -/

/-- A Horizontal whose first run, of this colour, has grown to 64. -/
def firstRun (c : Color) : State := { row8 .horiz [] [] (-1) c with tot := 64 }

/-- The word ends the first run of a Horizontal with its value. -/
def endsRun (c : Color) (p : Instr × Nat) : Bool :=
  (nextOf (exec p.1 (firstRun c))).map (fun t => (t.r1, t.tot, t.stage)) == some (some (64 + p.2), 0, .horiz)

/-- The word adds its value to the run. -/
def growsRun (c : Color) (p : Instr × Nat) : Bool :=
  (nextOf (exec p.1 (firstRun c))).map (fun t => (t.r1, t.tot, t.stage)) == some (none, 64 + p.2, .horiz)

/-- The word adds its value to a run of either colour. -/
def growsEither (p : Instr × Nat) : Bool := growsRun .white p && growsRun .black p

/-- 41_run_codes.md R184: the value of every white terminating word. -/
theorem test_exec_terminating_words_white :
    (([(.wt0, 0), (.wt1, 1), (.wt2, 2),
      (.wt3, 3), (.wt4, 4), (.wt5, 5),
      (.wt6, 6), (.wt7, 7), (.wt8, 8),
      (.wt9, 9), (.wt10, 10), (.wt11, 11),
      (.wt12, 12), (.wt13, 13), (.wt14, 14)] : List (Instr × Nat)) ++
    ([(.wt15, 15), (.wt16, 16), (.wt17, 17),
      (.wt18, 18), (.wt19, 19), (.wt20, 20),
      (.wt21, 21), (.wt22, 22), (.wt23, 23),
      (.wt24, 24), (.wt25, 25), (.wt26, 26),
      (.wt27, 27), (.wt28, 28), (.wt29, 29)] : List (Instr × Nat)) ++
    ([(.wt30, 30), (.wt31, 31), (.wt32, 32),
      (.wt33, 33), (.wt34, 34), (.wt35, 35),
      (.wt36, 36), (.wt37, 37), (.wt38, 38),
      (.wt39, 39), (.wt40, 40), (.wt41, 41),
      (.wt42, 42), (.wt43, 43), (.wt44, 44)] : List (Instr × Nat)) ++
    ([(.wt45, 45), (.wt46, 46), (.wt47, 47),
      (.wt48, 48), (.wt49, 49), (.wt50, 50),
      (.wt51, 51), (.wt52, 52), (.wt53, 53),
      (.wt54, 54), (.wt55, 55), (.wt56, 56),
      (.wt57, 57), (.wt58, 58), (.wt59, 59)] : List (Instr × Nat)) ++
    ([(.wt60, 60), (.wt61, 61), (.wt62, 62),
      (.wt63, 63)] : List (Instr × Nat))).all
      (endsRun .white) = true := by decide +kernel

/-- 41_run_codes.md R185: the value of every white makeup word. -/
theorem test_exec_makeup_words_white :
    (([(.wm64, 64), (.wm128, 128), (.wm192, 192),
      (.wm256, 256), (.wm320, 320), (.wm384, 384),
      (.wm448, 448), (.wm512, 512), (.wm576, 576),
      (.wm640, 640), (.wm704, 704), (.wm768, 768),
      (.wm832, 832), (.wm896, 896), (.wm960, 960)] : List (Instr × Nat)) ++
    ([(.wm1024, 1024), (.wm1088, 1088), (.wm1152, 1152),
      (.wm1216, 1216), (.wm1280, 1280), (.wm1344, 1344),
      (.wm1408, 1408), (.wm1472, 1472), (.wm1536, 1536),
      (.wm1600, 1600), (.wm1664, 1664), (.wm1728, 1728)] : List (Instr × Nat))).all
      (growsRun .white) = true := by decide +kernel

/-- 41_run_codes.md R186: the value of every black terminating word. -/
theorem test_exec_terminating_words_black :
    (([(.bt0, 0), (.bt1, 1), (.bt2, 2),
      (.bt3, 3), (.bt4, 4), (.bt5, 5),
      (.bt6, 6), (.bt7, 7), (.bt8, 8),
      (.bt9, 9), (.bt10, 10), (.bt11, 11),
      (.bt12, 12), (.bt13, 13), (.bt14, 14)] : List (Instr × Nat)) ++
    ([(.bt15, 15), (.bt16, 16), (.bt17, 17),
      (.bt18, 18), (.bt19, 19), (.bt20, 20),
      (.bt21, 21), (.bt22, 22), (.bt23, 23),
      (.bt24, 24), (.bt25, 25), (.bt26, 26),
      (.bt27, 27), (.bt28, 28), (.bt29, 29)] : List (Instr × Nat)) ++
    ([(.bt30, 30), (.bt31, 31), (.bt32, 32),
      (.bt33, 33), (.bt34, 34), (.bt35, 35),
      (.bt36, 36), (.bt37, 37), (.bt38, 38),
      (.bt39, 39), (.bt40, 40), (.bt41, 41),
      (.bt42, 42), (.bt43, 43), (.bt44, 44)] : List (Instr × Nat)) ++
    ([(.bt45, 45), (.bt46, 46), (.bt47, 47),
      (.bt48, 48), (.bt49, 49), (.bt50, 50),
      (.bt51, 51), (.bt52, 52), (.bt53, 53),
      (.bt54, 54), (.bt55, 55), (.bt56, 56),
      (.bt57, 57), (.bt58, 58), (.bt59, 59)] : List (Instr × Nat)) ++
    ([(.bt60, 60), (.bt61, 61), (.bt62, 62),
      (.bt63, 63)] : List (Instr × Nat))).all
      (endsRun .black) = true := by decide +kernel

/-- 41_run_codes.md R187: the value of every black makeup word. -/
theorem test_exec_makeup_words_black :
    (([(.bm64, 64), (.bm128, 128), (.bm192, 192),
      (.bm256, 256), (.bm320, 320), (.bm384, 384),
      (.bm448, 448), (.bm512, 512), (.bm576, 576),
      (.bm640, 640), (.bm704, 704), (.bm768, 768),
      (.bm832, 832), (.bm896, 896), (.bm960, 960)] : List (Instr × Nat)) ++
    ([(.bm1024, 1024), (.bm1088, 1088), (.bm1152, 1152),
      (.bm1216, 1216), (.bm1280, 1280), (.bm1344, 1344),
      (.bm1408, 1408), (.bm1472, 1472), (.bm1536, 1536),
      (.bm1600, 1600), (.bm1664, 1664), (.bm1728, 1728)] : List (Instr × Nat))).all
      (growsRun .black) = true := by decide +kernel

/-- 41_run_codes.md R188: the value of every extended makeup word, in both colours. -/
theorem test_exec_extended_makeup_words :
    (([(.xm1792, 1792), (.xm1856, 1856), (.xm1920, 1920),
      (.xm1984, 1984), (.xm2048, 2048), (.xm2112, 2112),
      (.xm2176, 2176), (.xm2240, 2240), (.xm2304, 2304),
      (.xm2368, 2368), (.xm2432, 2432), (.xm2496, 2496),
      (.xm2560, 2560)] : List (Instr × Nat))).all
      growsEither = true := by decide +kernel

/-- A word of the other colour is not a word of the run (30_encoding.md R101). -/
theorem test_exec_wrong_colour :
    refusalOf (exec .bt2 (firstRun .white)) = some .outOfContext ∧
    refusalOf (exec .wm64 (firstRun .black)) = some .outOfContext ∧
    refusalOf (exec .xm1792 (row8 .readMode [] [] (-1) .white)) = some .outOfContext := by decide +kernel

/-- M15, M16, M34, M35, M37: the word that ends the second run of a Horizontal. -/
theorem test_exec_second_run :
    (view (exec .bt0 { row8 .horiz [] [] (-1) .white with r1 := some 8 }) == some (8, .white, [], .rowEnd)) &&
    (view (exec .bt2 { row8 .horiz [] [] (-1) .white with r1 := some 3 }) ==
      some (5, .white, [3, 5], .readMode)) &&
    (status (exec .bt4 { row8 .horiz [] [] (-1) .white with r1 := some 5 }) ==
      some (.failed, .decompressionError)) &&
    (status (exec .bt0 { row8 .horiz [] [] (-1) .white with r1 := some 3 }) ==
      some (.failed, .decompressionError)) &&
    (status (exec .wt2 { row8 .horiz [] [5] 5 .black with r1 := some 0 }) ==
      some (.failed, .decompressionError)) := by decide +kernel

/-- F1 to F4: the runs of a one-dimensional row. -/
theorem test_exec_one_dimensional :
    (view (exec .wt8 (row8 .oneD [] [] 0 .white)) == some (8, .black, [], .rowEnd)) &&
    (view (exec .wt0 (row8 .oneD [] [] 0 .white)) == some (0, .black, [0], .oneD)) &&
    (status (exec .bt5 (row8 .oneD [] [4] 4 .black)) == some (.failed, .decompressionError)) &&
    (status (exec .bt0 (row8 .oneD [] [3] 3 .black)) == some (.failed, .decompressionError)) := by decide +kernel

/-- 95_test_vectors.md 2.4: how runs are split into words. -/
theorem test_encodeRun :
    encodeRun .white 0 = [.wt0] ∧ encodeRun .white 63 = [.wt63] ∧ encodeRun .white 64 = [.wm64, .wt0] ∧
    encodeRun .white 1791 = [.wm1728, .wt63] ∧ encodeRun .white 1792 = [.xm1792, .wt0] ∧
    encodeRun .white 2623 = [.xm2560, .wt63] ∧ encodeRun .black 2624 = [.xm2560, .bm64, .bt0] ∧
    encodeRun .black 66 = [.bm64, .bt2] := by decide +kernel

/-! ### Framing -/

/-- 43_rows_and_raster.md R252, R253, R255: the marker and the tag. -/
theorem test_exec_framing :
    (nextOf (exec .eol { row8 .rowStart [] [] (-1) .white with mixed := true })).map
      (fun t => (t.stage, t.eolSeen)) = some (.rowStart, true) ∧
    (nextOf (exec .tag0 { row8 .rowStart [] [] (-1) .white with mixed := true, eolSeen := true })).map
      (fun t => (t.stage, t.a0, t.eolSeen)) = some (.readMode, -1, false) ∧
    (nextOf (exec .tag1 { row8 .rowStart [] [] (-1) .white with mixed := true, eolSeen := true })).map
      (fun t => (t.stage, t.a0, t.eolSeen)) = some (.oneD, 0, false) ∧
    refusalOf (exec .eol (row8 .readMode [] [] (-1) .white)) = some .outOfContext := by decide +kernel

/-- F7, F8 (a source that ends inside the marker), S4 (another word in its place). -/
theorem test_framing_errors :
    status (step (onBytes { row8 .rowStart [] [] (-1) .white with mixed := true } [0x80])) =
      some (.failed, .decompressionError) ∧
    status (step (onBytes { row8 .rowStart [] [] (-1) .white with mixed := true } [0x80, 0x00])) =
      some (.failed, .eolError) ∧
    status (step (onBytes { row8 .rowStart [] [] (-1) .white with mixed := true } [0x00, 0x00, 0x80])) =
      some (.failed, .eolError) := by decide +kernel

/-! ### Cursor commands -/

/-- B7: every sub-byte width on the byte D6. -/
theorem test_read_sub_byte_widths :
    ([(.readBits1, 1, 7), (.readBits2, 3, 6), (.readBits3, 6, 5), (.readBits4, 13, 4), (.readBits5, 26, 3),
      (.readBits6, 53, 2), (.readBits7, 107, 1)] : List (Instr × Nat × Nat)).all (fun p =>
        readView (exec p.1 (cursorOver [0xD6] .le 0 0 0)) == some (.value p.2.1, 1, p.2.2)) = true := by
  decide +kernel

/-- S3: the rows of the table, from the cursor after `READBITS 3` on B4 7F. -/
theorem test_read_pending :
    (readView (exec .readBits5 (cursorOver [0xB4, 0x7F] .be 1 5 0xB4)) == some (.value 20, 1, 0)) &&
    (readView (exec .readBits6 (cursorOver [0xB4, 0x7F] .be 1 5 0xB4)) ==
      some (.error .crossByteBoundary, 1, 5)) &&
    (readView (exec .readBits8 (cursorOver [0xB4, 0x7F] .be 1 5 0xB4)) ==
      some (.error .incompleteBitRead, 1, 5)) &&
    (readView (exec .readBits32 (cursorOver [0xB4, 0x7F] .be 1 5 0xB4)) ==
      some (.error .incompleteBitRead, 1, 5)) := by decide +kernel

/-- S1, B3: the byte orders. -/
theorem test_read_orders :
    (readView (exec .readBits24 (cursorOver [0x21, 0x32, 0x43] .le 0 0 0)) == some (.value 0x433221, 3, 0)) &&
    (readView (exec .readBits24 (cursorOver [0x21, 0x32, 0x43] .be 0 0 0)) == some (.value 0x213243, 3, 0)) &&
    (readView (exec .readBits16 (cursorOver [0x12, 0x34] .le 0 0 0)) == some (.value 0x3412, 2, 0)) &&
    (readView (exec .readBits16 (cursorOver [0x12, 0x34] .be 0 0 0)) == some (.value 0x1234, 2, 0)) &&
    (readView (exec .readBits32 (cursorOver [0x12, 0x34, 0x56, 0x78] .le 0 0 0)) ==
      some (.value 0x78563412, 4, 0)) &&
    (readView (exec .readBits32 (cursorOver [0xFF, 0xFF, 0xFF, 0xFF] .be 0 0 0)) ==
      some (.value 4294967295, 4, 0)) &&
    (readView (exec .readBits8 (cursorOver [0xAB] .le 0 0 0)) == some (.value 0xAB, 1, 0)) := by decide +kernel

/-- B4, B5: the end of the source, and the order of the checks. -/
theorem test_read_end_of_source :
    (readView (exec .readBits16 (cursorOver [0xFF] .le 0 0 0)) == some (.error .endOfStream, 0, 0)) &&
    (readView (exec .readBits32 (cursorOver [0x12, 0x34, 0x56] .le 0 0 0)) == some (.error .endOfStream, 0, 0)) &&
    (readView (exec .readBits1 (cursorOver [] .le 0 0 0)) == some (.error .endOfStream, 0, 0)) &&
    (readView (exec .readBits16 (cursorOver [0x80] .be 1 7 0x80)) == some (.error .incompleteBitRead, 1, 7)) &&
    (readView (exec .readBits7 (cursorOver [0x80] .be 1 7 0x80)) == some (.value 0, 1, 0)) := by decide +kernel

/-- B1, B2: `FLUSH` and `BYTESREAD`. -/
theorem test_flush_and_count :
    (readView (exec .flush (cursorOver [0xA5, 0x21, 0x32] .be 1 5 0xA5)) == some (.ok, 1, 0)) &&
    (readView (exec .bytesRead (cursorOver [0xA5, 0x21, 0x32] .be 1 5 0xA5)) == some (.value 1, 1, 5)) &&
    (readView (exec .flush (cursorOver [] .be 0 0 0)) == some (.ok, 0, 0)) := by decide +kernel

/-- S2: `READBITS 15` is refused with its error kind, whatever the cursor. -/
theorem test_read_illegal_width :
    (readView (step { cursorOver [0x80] .be 1 7 0x80 with cmds := [.readBits 15] }) ==
      some (.error .invalidBitCount, 1, 7)) &&
    (faultOf (step (cursorOver [0x80] .be 1 7 0x80)) == some .noCommand) := by decide +kernel

/-! ### Writer commands -/

/-- W1, W2: the sub-byte widths. -/
theorem test_write_sub_byte :
    (writeView (exec (.writeBits3 5) (writerWith [] .be 0 0)) == some (.ok, [], 0xA0, 3)) &&
    (writeView (exec (.writeBits5 20) (writerWith [] .be 0xA0 3)) == some (.ok, [0xB4], 0, 0)) &&
    (writeView (exec (.writeBits1 1) (writerWith [0xB4] .be 0 0)) == some (.ok, [0xB4], 0x80, 1)) &&
    (writeView (exec (.writeBits7 0x7F) (writerWith [0xB4] .be 0x80 1)) == some (.ok, [0xB4, 0xFF], 0, 0)) &&
    (writeView (exec (.writeBits4 9) (writerWith [] .be 0 0)) == some (.ok, [], 0x90, 4)) &&
    (writeView (exec (.writeBits2 0xFF) (writerWith [] .be 0 0)) == some (.ok, [], 0xC0, 2)) &&
    (writeView (exec (.writeBits6 53) (writerWith [] .be 0 0)) == some (.ok, [], 0xD4, 6)) := by decide +kernel

/-- W1: the errors. -/
theorem test_write_errors :
    (writeView (exec (.writeBits5 0) (writerWith [0xFF] .be 0x90 4)) ==
      some (.error .crossByteBoundary, [0xFF], 0x90, 4)) &&
    (writeView (exec (.writeBits8 0) (writerWith [0xB4] .be 0x80 1)) ==
      some (.error .incompleteBitRead, [0xB4], 0x80, 1)) &&
    (writeView (step { writerWith [] .be 0x90 4 with cmds := [.writeBits 9 0] }) ==
      some (.error .invalidBitCount, [], 0x90, 4)) := by decide +kernel

/-- W1: the aligned widths in both orders, and `PAD`. -/
theorem test_write_aligned_and_pad :
    (writeView (exec (.writeBits16 0x2132) (writerWith [0xB4] .be 0 0)) == some (.ok, [0xB4, 0x21, 0x32], 0, 0)) &&
    (writeView (exec (.writeBits16 0x2132) (writerWith [0xB4] .le 0 0)) == some (.ok, [0xB4, 0x32, 0x21], 0, 0)) &&
    (writeView (exec (.writeBits24 0x433221) (writerWith [] .be 0 0)) == some (.ok, [0x43, 0x32, 0x21], 0, 0)) &&
    (writeView (exec (.writeBits32 0x78563412) (writerWith [] .le 0 0)) ==
      some (.ok, [0x12, 0x34, 0x56, 0x78], 0, 0)) &&
    (writeView (exec (.writeBits8 0xAB) (writerWith [] .le 0 0)) == some (.ok, [0xAB], 0, 0)) &&
    (writeView (exec .pad (writerWith [0xFF] .be 0x90 4)) == some (.ok, [0xFF, 0x90], 0, 0)) &&
    (writeView (exec .pad (writerWith [0xFF] .be 0 0)) == some (.ok, [0xFF], 0, 0)) := by decide +kernel

/-! ### Rows, raster and encoder -/

/-- 95_test_vectors.md 2.7, both directions. -/
theorem test_raster :
    fromChangingElements [0, 1] 2 = [0x80] ∧ fromChangingElements [3, 5] 8 = [0x18] ∧
    fromChangingElements [9] 10 = [0x00, 0x40] ∧ fromChangingElements [0] 8 = [0xFF] ∧
    fromChangingElements [4, 12] 16 = [0x0F, 0xF0] ∧ toChangingElements [0x9F] 4 = [0, 1, 3] ∧
    toChangingElements [0xFF, 0xFF] 9 = [0] ∧ fromChangingElements [0] 9 = [0xFF, 0x80] := by decide +kernel

/-- P1: the end of row 1 of three. -/
theorem test_row_end :
    (nextOf (step { row8 .rowEnd [3, 5] [2, 6] 8 .black with height := 3, row := 1, ras := [(0, 0x18)] })).map
      (fun t => (t.ras, t.ref, t.row, t.stage)) = some ([(0, 0x18), (1, 0x3C)], [2, 6], 2, .rowStart) := by
  decide +kernel

/-- The start of a call, and F9: bad geometry is found before anything is read. -/
theorem test_start :
    status (step (State.decompressCall [0x80] 8 1 false false)) = some (.rowStart, .none) ∧
    status (step (State.decompressCall [0x80] 0 1 false false)) = some (.failed, .invalidGeometry) ∧
    status (step (State.compressCall [0x80] 8 1 false)) = some (.busy, .none) ∧
    status (step (State.compressCall [0x80] 4 0 false)) = some (.failed, .invalidGeometry) ∧
    refusalOf (step (State.compressCall [0x80] 8 2 false)) = some .rasterLength := by decide +kernel

/-- The encoder inside a row of eight columns. -/
def encoding (ref cur : List Int) (a0 : Int) (c : Color) : State :=
  { row8 .busy ref cur a0 c with call := .compress, rowOpen := true }

/-- C1 to C4, C6, C8, C9: the mode the encoder chooses. -/
theorem test_encoder_choice :
    (encoding [2, 6] [7] (-1) .white).choice = .pass 6 ∧
    (encoding [2, 6] [6] (-1) .white).choice = .horizontal 6 8 ∧
    (encoding [2, 6] [5] (-1) .white).choice = .vertical .right3 5 ∧
    (encoding [] [3, 5] (-1) .white).choice = .horizontal 3 5 ∧
    (encoding [] [0] (-1) .white).choice = .horizontal 0 8 ∧
    (encoding [] [5] (-1) .white).choice = .vertical .left3 5 ∧
    (encoding [3, 5] [3, 5] 3 .black).choice = .vertical .zero 5 := by decide +kernel

/-- C4: `H WT3 BT2` is emitted and `a0` goes to 5. -/
theorem test_encoder_step :
    (nextOf (step (encoding [] [3, 5] (-1) .white))).map (fun t => (t.a0, t.color, t.wr.sink, t.wr.acc, t.wr.cnt)) ==
      some (5, .white, [(0, 0x31)], 0x80, 1) := by decide +kernel

/-- A bare table word placed as the first instruction runs: `WT2` ends the first run of a Horizontal. -/
theorem test_withFetchWord :
    (nextOf (step (State.reset.withFetchWord 8 0x70))).map (fun t => (t.r1, t.stage, t.rd.bitPos)) =
      some (some 2, .horiz, 4) := by decide +kernel

/-! ### Witnesses: states that meet the hypotheses of the statements, at the boundaries of their clauses -/

/-- `RowOk` from its parts. -/
theorem rowOk_of {s : State} (h : 0 < s.width ∧ -1 ≤ s.a0 ∧ s.a0 ≤ s.width ∧ (s.row : Int) < s.height)
    (hr : (∀ e ∈ s.ref, 0 ≤ e ∧ e < s.width) ∧ s.ref.Pairwise (· < ·))
    (hc : (∀ e ∈ s.cur, 0 ≤ e ∧ e < s.width) ∧ s.cur.Pairwise (· < ·)) : RowOk s :=
  ⟨h.1, hr, hc, h.2.1, h.2.2.1, h.2.2.2⟩

/-- `CallOk` of a state inside a row, between its code words or in `HORIZ`. -/
theorem callOk_of {s : State} (hr : RowOk s)
    (hi : s.a0 < s.width ∧ (∀ e ∈ s.cur, e ≤ s.a0) ∧ s.cur.length % 2 = colorBit s.color)
    (ho : s.stage = .oneD → 0 ≤ s.a0) (hp : s.stage = .pass → s.a0 < s.b2 ∧ s.b2 ≤ s.width)
    (hv : s.stage = .vert → s.a0 < s.b1 ∧ s.b1 ≤ s.width) (hn : s.stage ≠ .rowEnd ∧ s.stage ≠ .done)
    (he : s.eolSeen = false) : CallOk s :=
  ⟨fun _ => hr, fun _ => ⟨hi.1, hi.2.1, hi.2.2⟩, ho, hp, hv, fun h => absurd h hn.1, fun h => absurd h hn.2,
    fun _ h => absurd h (by simp [he])⟩

/-- A decoder in a row of eight columns, about to read its next mode code. -/
def mid (bytes : List Byte) (ref cur : List Int) (a0 : Int) (c : Color) : State :=
  onBytes (row8 .readMode ref cur a0 c) bytes

/-- `H WT3 BT2 V0` at the start of a row. -/
def midH : State := mid [0x31, 0xC0] [] [] (-1) .white

theorem midH_row : RowOk midH := rowOk_of (by decide +kernel) (by decide +kernel) (by decide +kernel)

theorem midH_call : CallOk midH :=
  callOk_of midH_row (by decide +kernel) (by decide +kernel) (by decide +kernel) (by decide +kernel)
    (by decide +kernel) rfl

theorem midH_cursor : CursorOk midH := ⟨by decide +kernel, by decide +kernel, by decide +kernel⟩

theorem midH_loaded : SrcLoaded midH := by unfold SrcLoaded; decide +kernel

theorem midH_temp : TempOk midH := ⟨by decide +kernel, by decide +kernel, by decide +kernel, by decide +kernel⟩

theorem midH_status : StatusOk midH := by unfold StatusOk; decide +kernel

theorem midH_memory : MemoryOk midH := by unfold MemoryOk; decide +kernel

theorem midH_writer : WriterOk midH.wr := ⟨by decide +kernel, by decide +kernel, by decide +kernel⟩

/-- The same where no mode code matches. -/
def midBad : State := mid [0x02] [] [] (-1) .white

theorem midBad_call : CallOk midBad :=
  callOk_of (rowOk_of (by decide +kernel) (by decide +kernel) (by decide +kernel)) (by decide +kernel)
    (by decide +kernel) (by decide +kernel) (by decide +kernel) (by decide +kernel) rfl

theorem midBad_temp : TempOk midBad :=
  ⟨by decide +kernel, by decide +kernel, by decide +kernel, by decide +kernel⟩

theorem midBad_cursor : CursorOk midBad := ⟨by decide +kernel, by decide +kernel, by decide +kernel⟩

theorem midBad_loaded : SrcLoaded midBad := by unfold SrcLoaded; decide +kernel

/-- A `ROW_START` that has to read the framing. -/
def framed (bytes : List Byte) (eolSeen : Bool) : State :=
  onBytes { row8 .rowStart [] [] (-1) .white with mixed := true, eolSeen := eolSeen } bytes

theorem framed_cursor (eolSeen : Bool) :
    ∀ bytes ∈ ([[0x80], [0x80, 0x00], [0x00, 0x1C], [0x7F], []] : List (List Byte)),
      CursorOk (framed bytes eolSeen) := by
  intro bytes _
  exact ⟨Nat.zero_le _, Nat.zero_le _, fun h => absurd h (Nat.lt_irrefl 0)⟩

theorem framed_loaded (eolSeen : Bool) :
    ∀ bytes ∈ ([[0x80], [0x80, 0x00], [0x00, 0x1C], [0x7F], []] : List (List Byte)),
      SrcLoaded (framed bytes eolSeen) := by
  cases eolSeen <;> unfold SrcLoaded <;> decide +kernel

theorem witness_DecodeInvertsEncode :
    wellFormed .mode .vl3 = true ∧ wellFormed (.run .black) .xm2560 = true ∧ wellFormed .tag .tag0 = true := by
  decide +kernel

theorem witness_DecodedWordIsEncoded : decode .mode [true, false] = .word .v0 [false] := rfl

theorem witness_UndecodableWordsByZeroBits :
    readsNothing .mode [0,0,0,0,0,0,1] = true ∧ readsAs .mode (.vl3, [0,0,0,0,0,1,0]) = true ∧
    maxLen (.run .white) ≤ (digits [0,0,0,0,0,0,0,1,1,1,1,1]).length ∧
    readsAs (.run .white) (.xm2560, [0,0,0,0,0,0,0,1,1,1,1,1]) = true := by decide +kernel

theorem witness_BitReadFollowsStream :
    (CursorOk (cursorOver [0xB4] .be 1 1 0xB4) ∧ SrcLoaded (cursorOver [0xB4] .be 1 1 0xB4) ∧
      (cursorOver [0xB4] .be 1 1 0xB4).rd.bitPos < 8 * (cursorOver [0xB4] .be 1 1 0xB4).srcLen) ∧
    (CursorOk (cursorOver [0xB4] .be 1 0 0xB4) ∧ SrcLoaded (cursorOver [0xB4] .be 1 0 0xB4) ∧
      8 * (cursorOver [0xB4] .be 1 0 0xB4).srcLen ≤ (cursorOver [0xB4] .be 1 0 0xB4).rd.bitPos) :=
  ⟨⟨⟨by decide +kernel, by decide +kernel, by decide +kernel⟩, by unfold SrcLoaded; decide +kernel,
      by decide +kernel⟩,
    ⟨⟨by decide +kernel, by decide +kernel, by decide +kernel⟩, by unfold SrcLoaded; decide +kernel,
      by decide +kernel⟩⟩

/-- What decoding the upcoming bits gives, by name. -/
def outcomeOf (ctx : Context) (s : State) : Nat :=
  match decode ctx s.upcoming with
  | .word _ _ => 0
  | .noRow _ => 1
  | .truncated _ => 2
  | .absent => 3

theorem witness_FetchReadsUpcomingWord :
    (CursorOk midH ∧ SrcLoaded midH ∧ outcomeOf .mode midH = 0) ∧
    (CursorOk midBad ∧ SrcLoaded midBad ∧ outcomeOf .mode midBad = 1 ∧ outcomeOf .eol midBad = 2) :=
  ⟨⟨midH_cursor, midH_loaded, by decide +kernel⟩, midBad_cursor, midBad_loaded, by decide +kernel⟩

/-- The instruction that a state's next step reads. -/
def readsNext (ctx : Context) (s : State) (i : Instr) : Bool :=
  s.context == some ctx &&
    match decodeWith State.nextBit ctx s.beforeWord with
    | .word j _ => j == i
    | _ => false

theorem witness_StepRunsFetchedInstruction :
    readsNext .mode midH .h = true ∧ readsNext .eol (framed [0x00, 0x1C] false) .eol = true ∧
    readsNext .tag (framed [0x80] true) .tag1 = true ∧
    readsNext (.run .white) (onBytes (row8 .oneD [] [] 0 .white) [0x70]) .wt2 = true ∧
    (latched .pass [2, 5] [] (-1) .white).stage = .pass ∧ (latched .vert [2, 5] [] (-1) .white).stage = .vert ∧
    (Command.readBits 3).instr = some .readBits3 := by decide +kernel

theorem witness_step_runs_command :
    ({ cursorOver [0xB4] .be 0 0 0 with cmds := [.readBits 3] } : State).stage = .idle ∧
    ({ cursorOver [0xB4] .be 0 0 0 with cmds := [.readBits 3] } : State).call = .standalone ∧
    ({ cursorOver [0xB4] .be 0 0 0 with cmds := [.readBits 3] } : State).cmds = .readBits 3 :: [] := by
  decide +kernel

/-- Exactly seven bits are left, and the first six are 0. -/
def sevenLeft : State :=
  { onBytes (row8 .readMode [] [] (-1) .white) [0x81] with
    rd := { order := .le, cache := 0x81, rem := 7, bytesRead := 1 } }

theorem witness_IllegalModeWordRaises :
    sevenLeft.stage = .readMode ∧ CursorOk sevenLeft ∧ SrcLoaded sevenLeft ∧ 7 ≤ sevenLeft.upcoming.length ∧
    sevenLeft.upcoming.take 6 = List.replicate 6 false :=
  ⟨by decide +kernel, ⟨by decide +kernel, by decide +kernel, by decide +kernel⟩,
    by unfold SrcLoaded; decide +kernel, by decide +kernel, by decide +kernel⟩

/-- The source ends inside a mode code: after six 0 bits, the most that can be left, and at once (M40, M41). -/
def sixLeft : State :=
  { onBytes (row8 .readMode [] [] (-1) .white) [0xC0] with
    rd := { order := .le, cache := 0xC0, rem := 6, bytesRead := 1 } }

theorem witness_IllegalModeWordRaises_truncated :
    (sixLeft.stage = .readMode ∧ CursorOk sixLeft ∧ SrcLoaded sixLeft ∧ sixLeft.upcoming.length = 6 ∧
      ∀ i ∈ tableOf .mode, ¬ encode i <+: sixLeft.upcoming) ∧
    (CursorOk (mid [] [] [] (-1) .white) ∧ SrcLoaded (mid [] [] [] (-1) .white) ∧
      (mid [] [] [] (-1) .white).upcoming = []) :=
  ⟨⟨by decide +kernel, ⟨by decide +kernel, by decide +kernel, by decide +kernel⟩,
      by unfold SrcLoaded; decide +kernel, by decide +kernel, by decide +kernel⟩,
    ⟨by decide +kernel, by decide +kernel, by decide +kernel⟩, by unfold SrcLoaded; decide +kernel,
    by decide +kernel⟩

/-- A run position in front of an `EOL`: RC33 and RC34. -/
def runAtEol (c : Color) : State := onBytes (row8 .oneD [] [] 0 c) [0x00, 0x10]

theorem witness_IllegalRunWordRaises (c : Color) :
    (runAtEol c).runColor = some c ∧ CursorOk (runAtEol c) ∧ SrcLoaded (runAtEol c) ∧
    maxLen (.run c) ≤ (runAtEol c).upcoming.length ∧
    (runAtEol c).upcoming.take 8 = List.replicate 8 false := by
  cases c <;>
    exact ⟨by decide +kernel, ⟨by decide +kernel, by decide +kernel, by decide +kernel⟩,
      by unfold SrcLoaded; decide +kernel, by decide +kernel, by decide +kernel⟩

/-- The source ends inside a run code, after eight 0 bits (RC32), in `ONE_D` and in `HORIZ`. -/
def runAtEnd (stage : Stage) (c : Color) : State := onBytes (row8 stage [] [] 0 c) [0x00]

theorem witness_IllegalRunWordRaises_truncated (c : Color) :
    ∀ stage ∈ ([.oneD, .horiz] : List Stage),
      (runAtEnd stage c).runColor = some c ∧ CursorOk (runAtEnd stage c) ∧ SrcLoaded (runAtEnd stage c) ∧
      (runAtEnd stage c).upcoming.length < maxLen (.run c) ∧
      ∀ i ∈ tableOf (.run c), ¬ encode i <+: (runAtEnd stage c).upcoming := by
  intro stage h
  simp only [List.mem_cons, List.not_mem_nil, or_false] at h
  rcases h with rfl | rfl <;> cases c <;>
    exact ⟨by decide +kernel, ⟨by decide +kernel, by decide +kernel, by decide +kernel⟩,
      by unfold SrcLoaded; decide +kernel, by decide +kernel, by decide +kernel⟩

theorem witness_RowFraming_marker :
    (∀ bytes ∈ ([[0x80], [0x80, 0x00], [0x00, 0x1C], [0x7F], []] : List (List Byte)),
      CursorOk (framed bytes false) ∧ SrcLoaded (framed bytes false)) ∧
    (framed [0x80] false).beginRow.upcoming.length < 12 ∧
    (12 ≤ (framed [0x80, 0x00] false).beginRow.upcoming.length ∧
      (framed [0x80, 0x00] false).beginRow.upcoming.take 12 ≠ List.replicate 11 false ++ [true]) ∧
    (12 ≤ (framed [0x00, 0x1C] false).beginRow.upcoming.length ∧
      (framed [0x00, 0x1C] false).beginRow.upcoming.take 12 = List.replicate 11 false ++ [true]) :=
  ⟨fun b h => ⟨framed_cursor false b h, framed_loaded false b h⟩, by decide +kernel, by decide +kernel,
    by decide +kernel⟩

theorem witness_RowFraming_tag :
    (∀ bytes ∈ ([[0x80], [0x80, 0x00], [0x00, 0x1C], [0x7F], []] : List (List Byte)),
      CursorOk (framed bytes true) ∧ SrcLoaded (framed bytes true)) ∧
    (framed [0x80] true).upcoming = true :: List.replicate 7 false ∧
    (framed [0x7F] true).upcoming = false :: List.replicate 7 true ∧ (framed [] true).upcoming = [] ∧
    (framed [] true).stage = .rowStart ∧ (framed [] true).mixed = true ∧ (framed [] true).eolSeen = true :=
  ⟨fun b h => ⟨framed_cursor true b h, framed_loaded true b h⟩, by decide +kernel, by decide +kernel,
    by decide +kernel, by decide +kernel⟩

theorem witness_ReadSubByte :
    ((Command.readBits 5).instr = some .readBits5 ∧ (5 : Int) < 8 ∧ (5 : Int).toNat ≤
      (cursorOver [0xB4] .be 1 5 0xB4).rd.rem ∧ (cursorOver [0xB4] .be 1 5 0xB4).stage = .idle) ∧
    ((cursorOver [0xB4] .be 0 0 0).rd.rem = 0 ∧ (cursorOver [0xB4] .be 0 0 0).rd.bytesRead <
      (cursorOver [0xB4] .be 0 0 0).srcLen ∧ (cursorOver [0xB4] .be 0 0 0).src.read 0 = some 0xB4) ∧
    (0 < (cursorOver [0xB4] .be 1 4 0xB4).rd.rem ∧ (cursorOver [0xB4] .be 1 4 0xB4).rd.rem < (5 : Int).toNat) ∧
    ((cursorOver [0xB4] .be 1 0 0).rd.rem = 0 ∧ (cursorOver [0xB4] .be 1 0 0).srcLen ≤
      (cursorOver [0xB4] .be 1 0 0).rd.bytesRead) := by decide +kernel

theorem witness_SubByteValueIsStreamBits :
    CursorOk (cursorOver [0xB4] .be 1 5 0xB4) ∧
    (cursorOver [0xB4] .be 1 5 0xB4).rd.readBits (cursorOver [0xB4] .be 1 5 0xB4).src
      (cursorOver [0xB4] .be 1 5 0xB4).srcLen 5 =
      .value 20 { order := .be, cache := 0xB4, rem := 0, bytesRead := 1 } :=
  ⟨⟨by decide +kernel, by decide +kernel, by decide +kernel⟩, by decide +kernel⟩

theorem witness_ReadByte :
    ((cursorOver [0xB4] .be 0 0 0).stage = .idle ∧ (cursorOver [0xB4] .be 0 0 0).rd.rem = 0 ∧
      (cursorOver [0xB4] .be 0 0 0).rd.bytesRead < (cursorOver [0xB4] .be 0 0 0).srcLen ∧
      (cursorOver [0xB4] .be 0 0 0).src.read 0 = some 0xB4) ∧
    (cursorOver [0xB4] .be 1 1 0xB4).rd.rem ≠ 0 ∧
    ((cursorOver [0xB4] .be 1 0 0xB4).rd.rem = 0 ∧ (cursorOver [0xB4] .be 1 0 0xB4).srcLen ≤
      (cursorOver [0xB4] .be 1 0 0xB4).rd.bytesRead) := by decide +kernel

theorem witness_ReadMultiByte :
    ((cursorOver [0x12, 0x34] .be 0 0 0).stage = .idle ∧ (cursorOver [0x12, 0x34] .be 0 0 0).rd.rem = 0 ∧
      (cursorOver [0x12, 0x34] .be 0 0 0).rd.bytesRead + 2 ≤ (cursorOver [0x12, 0x34] .be 0 0 0).srcLen ∧
      ∀ j, j < 2 → (cursorOver [0x12, 0x34] .be 0 0 0).src.read j = some (if j = 0 then 0x12 else 0x34)) ∧
    (cursorOver [0x12, 0x34] .be 1 1 0x12).rd.rem ≠ 0 ∧
    ((cursorOver [0x12, 0x34] .be 1 0 0x12).rd.rem = 0 ∧ (cursorOver [0x12, 0x34] .be 1 0 0x12).srcLen <
      (cursorOver [0x12, 0x34] .be 1 0 0x12).rd.bytesRead + 2) := by decide +kernel

theorem witness_ReadResultFitsWidth :
    (Cursor.fresh .le).readBits (Memory.ofBytes [0xFF, 0xFF, 0xFF, 0xFF]) 4 32 =
      .value (2 ^ 32 - 1) { order := .le, cache := 0, rem := 0, bytesRead := 4 } := by decide +kernel

theorem witness_BitPositionAdvances :
    CursorOk (cursorOver [0xB4, 0x7F] .be 1 0 0xB4) ∧
    (cursorOver [0xB4, 0x7F] .be 1 0 0xB4).rd.readBits (cursorOver [0xB4, 0x7F] .be 1 0 0xB4).src 2 8 =
      .value 0x7F { order := .be, cache := 0xB4, rem := 0, bytesRead := 2 } :=
  ⟨⟨by decide +kernel, by decide +kernel, by decide +kernel⟩, by decide +kernel⟩

/-- With pending bits and without. -/
theorem witness_FlushDropsPendingBits :
    (CursorOk (cursorOver [0xB4] .be 1 7 0xB4) ∧ (cursorOver [0xB4] .be 1 7 0xB4).stage = .idle) ∧
    (CursorOk (cursorOver [0xB4] .be 1 0 0xB4) ∧ (cursorOver [0xB4] .be 1 0 0xB4).stage = .idle) :=
  ⟨⟨⟨by decide +kernel, by decide +kernel, by decide +kernel⟩, by decide +kernel⟩,
    ⟨⟨by decide +kernel, by decide +kernel, by decide +kernel⟩, by decide +kernel⟩⟩

theorem witness_BytesReadReturnsCounter :
    (cursorOver [0xB4] .be 1 5 0xB4).stage = .idle ∧ CursorOk (cursorOver [0xB4] .be 1 5 0xB4) :=
  ⟨by decide +kernel, by decide +kernel, by decide +kernel, by decide +kernel⟩

theorem witness_IllegalWidthIsInvalidBitCount :
    ([15, 0, -1, 9, 33] : List Int).all (fun n =>
      decide (n ∉ ([1, 2, 3, 4, 5, 6, 7, 8, 16, 24, 32] : List Int))) = true ∧
    ({ cursorOver [0xB4] .be 1 5 0xB4 with cmds := [.readBits 15] } : State).stage = .idle ∧
    ({ cursorOver [0xB4] .be 1 5 0xB4 with cmds := [.readBits 15] } : State).call = .standalone ∧
    ({ cursorOver [0xB4] .be 1 5 0xB4 with cmds := [.writeBits (-1) 3] } : State).cmds = [.writeBits (-1) 3] := by
  decide +kernel

theorem witness_WriteSubByte :
    (Command.writeBits 4 9).instr = some (.writeBits4 9) ∧ (writerWith [] .be 0xA0 3).stage = .idle ∧
    (writerWith [] .be 0xA0 3).wr.cnt + (4 : Int).toNat < 8 ∧
    (writerWith [] .be 0x90 4).wr.cnt + (4 : Int).toNat = 8 ∧
    8 < (writerWith [] .be 0xA8 5).wr.cnt + (4 : Int).toNat := by decide +kernel

theorem witness_WriteAligned :
    (writerWith [0xB4] .le 0 0).stage = .idle ∧ (writerWith [0xB4] .le 0 0).wr.cnt = 0 ∧
    (writerWith [0xB4] .le 0x80 1).wr.cnt ≠ 0 := by decide +kernel

theorem witness_PadCompletesByte :
    (writerWith [0xB4] .le 0 0).stage = .idle ∧ (writerWith [0xB4] .le 0 0).wr.cnt = 0 ∧
    0 < (writerWith [0xB4] .le 0x80 1).wr.cnt := by decide +kernel

theorem witness_AlignedWriteReadsBack :
    (BitWriter.fresh .be).alignedWrite 2 0x2132 =
      .ok { order := .be, acc := 0, cnt := 0, sinkLen := 2, sink := [(0, 0x21), (1, 0x32)] } := by decide +kernel

theorem witness_EmitAppendsBits : WriterOk (writerWith [0xB4] .le 0x80 1).wr :=
  ⟨by decide +kernel, by decide +kernel, by decide +kernel⟩

theorem witness_ModeWordsLatch : midH.stage = .readMode := by decide +kernel

theorem witness_PassMovesToB2 :
    (latched .pass [2, 5] [] (-1) .white).stage = .pass ∧
    (latched .pass [2, 5] [] (-1) .white).a0 < (latched .pass [2, 5] [] (-1) .white).b2 ∧
    ({ row8 .pass [] [] 5 .white with b2 := 5 } : State).b2 ≤ (row8 .pass [] [] 5 .white).a0 := by decide +kernel

/-- M24 (`a1 = WIDTH`, and one beyond), M20 (`a1 = a0`) and M21 (`a1 < a0`). -/
theorem witness_VerticalStep :
    (latched .vert [7] [] (-1) .white).stage = .vert ∧ (∀ e ∈ (latched .vert [7] [] (-1) .white).cur, e ≤ -1) ∧
    (latched .vert [7] [] (-1) .white).b1 + 1 = (latched .vert [7] [] (-1) .white).width ∧
    (latched .vert [7] [] (-1) .white).width < (latched .vert [7] [] (-1) .white).b1 + 2 ∧
    (latched .vert [0, 3] [] (-1) .white).b1 + -1 = (latched .vert [0, 3] [] (-1) .white).a0 ∧
    (latched .vert [0, 3] [] (-1) .white).b1 + -2 < (latched .vert [0, 3] [] (-1) .white).a0 := by decide +kernel

/-- M23: the element 4 is the first of odd index right of 2; right of 4 there is none. -/
theorem witness_FindBIsFirstQualifying :
    ([1, 2, 3, 4] : List Int)[3]? = some 4 ∧ 3 % 2 = colorBit .black ∧ (2 : Int) < 4 ∧
    findB 8 [1, 2, 3, 4] 2 .black = (4, 8) ∧ findB 8 [1, 2, 3, 4] 4 .black = (8, 8) ∧
    midH.stage = .readMode ∧ (nextOf (exec .p midH)).map (fun t => (t.b1, t.b2)) = some (8, 8) := by decide +kernel

theorem witness_FindBIsFirstQualifying_least :
    ∀ j f, j < 3 → ([1, 2, 3, 4] : List Int)[j]? = some f → j % 2 = colorBit .black → f ≤ 2 := by
  intro j f hj h hp
  have : j = 0 ∨ j = 1 ∨ j = 2 := by omega
  rcases this with rfl | rfl | rfl <;> simp_all [colorBit]

theorem witness_FindBIsFirstQualifying_none :
    ∀ i e, ([1, 2, 3, 4] : List Int)[i]? = some e → i % 2 = colorBit .black → e ≤ 4 := by
  intro i e h _
  have : e ∈ ([1, 2, 3, 4] : List Int) := List.mem_of_getElem? h
  simp only [List.mem_cons, List.not_mem_nil, or_false] at this
  omega

theorem witness_FindBBounds : LineOk 8 [2, 5] ∧ (-1 : Int) ≤ -1 ∧ (7 : Int) < 8 :=
  ⟨by unfold LineOk; decide +kernel, by decide, by decide⟩

theorem witness_MakeupWordsAccumulate :
    (firstRun .white).runColor = some .white ∧ wellFormed (.run .white) .wm64 = true ∧
    runValue .wm64 = some 64 ∧ wellFormed (.run .white) .xm2560 = true ∧ runValue .xm2560 = some 2560 := by
  decide +kernel

theorem witness_TerminatingWordKeepsFirstRun :
    (firstRun .black).stage = .horiz ∧ (firstRun .black).r1 = none ∧ (firstRun .black).color = .black ∧
    wellFormed (.run .black) .bt63 = true ∧ runValue .bt63 = some 63 := by decide +kernel

/-- A Horizontal with its first run complete. -/
def secondRun (cur : List Int) (a0 : Int) (c : Color) (r : Nat) : State :=
  { row8 .horiz [] cur a0 c with r1 := some r }

/-- `BT4` after 5 (beyond the row), `BT0` after 3 (a repeat of the first element), `WT2` after 0 (a repeat of the
last element), and the two legal boundaries: both elements at `WIDTH`, and the second at `WIDTH`. -/
theorem witness_TerminatingWordEndsHorizontal :
    ((secondRun [] (-1) .white 5).color ≠ .black ∧ wellFormed (.run .black) .bt4 = true ∧
      runValue .bt4 = some 4 ∧ (8 : Int) < max (-1) 0 + (5 : Nat) + ((0 + 4 : Nat) : Int)) ∧
    (max (-1 : Int) 0 + (3 : Nat) ≠ 8 ∧ max (-1 : Int) 0 + (3 : Nat) + ((0 + 0 : Nat) : Int) = max (-1) 0 + (3 : Nat)) ∧
    (max (5 : Int) 0 + (0 : Nat) ≠ 8 ∧ (secondRun [5] 5 .black 0).cur.getLast? = some (max (5 : Int) 0 + (0 : Nat))) ∧
    ((secondRun [] (-1) .white 8).cur.getLast? ≠ some 8 ∧ max (-1 : Int) 0 + (8 : Nat) = 8 ∧
      (∀ e ∈ (secondRun [] (-1) .white 8).cur, e ≤ (-1 : Int))) ∧
    ((secondRun [] (-1) .white 3).r1 = some 3 ∧ max (-1 : Int) 0 + (3 : Nat) < 8) := by decide +kernel

/-- F3 (beyond the row), F4 (a repeated column), F1 (the row is full) and F2 (the zero run at column 0). -/
theorem witness_TerminatingWordInOneDRow :
    ((row8 .oneD [] [4] 4 .black).stage = .oneD ∧ wellFormed (.run .black) .bt5 = true ∧ runValue .bt5 = some 5 ∧
      (8 : Int) < 4 + ((0 + 5 : Nat) : Int) ∧ ∀ x ∈ (row8 .oneD [] [4] 4 .black).cur, x ≤ (4 : Int)) ∧
    ((3 : Int) + ((0 + 0 : Nat) : Int) ≠ 8 ∧ (row8 .oneD [] [3] 3 .black).cur.getLast? = some 3) ∧
    ((0 : Int) + ((0 + 8 : Nat) : Int) = 8) ∧
    ((row8 .oneD [] [] 0 .white).cur.getLast? ≠ some 0) := by decide +kernel

/-- RC6. -/
theorem witness_DecodeRunInvertsEncodeRun :
    CursorOk (mid [0xDB, 0x80] [] [] (-1) .white) ∧ SrcLoaded (mid [0xDB, 0x80] [] [] (-1) .white) ∧
    (mid [0xDB, 0x80] [] [] (-1) .white).upcoming =
      encodeAll (encodeRun .white 66) ++ List.replicate 7 false :=
  ⟨⟨by decide +kernel, by decide +kernel, by decide +kernel⟩, by unfold SrcLoaded; decide +kernel,
    by decide +kernel⟩

theorem witness_RowStartWithoutFraming :
    (row8 .rowStart [2] [3] 8 .black).stage = .rowStart ∧ (row8 .rowStart [2] [3] 8 .black).mixed = false ∧
    (row8 .rowStart [2] [3] 8 .black).eolSeen = false := by decide +kernel

/-- The last row, and a row before it. -/
theorem witness_EndOfRow :
    (row8 .rowEnd [] [3, 5] 8 .black).stage = .rowEnd ∧
    ((row8 .rowEnd [] [3, 5] 8 .black).row : Int) + 1 = (row8 .rowEnd [] [3, 5] 8 .black).height ∧
    (({ row8 .rowEnd [] [3, 5] 8 .black with height := 2 } : State).row : Int) + 1 ≠ 2 := by decide +kernel

theorem witness_PackedRowPixels : (0 : Int) < 10 ∧ LineOk 10 [0, 9] :=
  ⟨by decide, by unfold LineOk; decide +kernel⟩

theorem witness_RasterAssemblyInverts :
    LineOk 4 [0, 1, 3] ∧ ([0x90] : List Byte).length = rowBytes 4 ∧ PaddingZero [0x90] 4 := by
  refine ⟨by unfold LineOk; decide +kernel, by decide +kernel, fun x h1 h2 => ?_⟩
  have h1 : 4 ≤ x := h1
  have h2 : x < 8 := h2
  interval_cases x <;> decide

/-- The rows `9F` and `90` of width 4 differ in their padding only. -/
theorem witness_RasterAssemblyInverts_padding :
    ∀ x, x < (4 : Int).toNat → packedPixel [0x9F] x = packedPixel [0x90] x := by decide +kernel

theorem witness_StartOfCall :
    (State.decompressCall [0x80] 0 1 false false).width ≤ 0 ∧ (State.compressCall [0x80] 4 (-1) false).height ≤ 0 ∧
    (0 < (State.compressCall [0x80] 1 1 false).width ∧
      (State.compressCall [0x80] 1 1 false).ras.map Prod.fst = List.range ((1 : Int).toNat * rowBytes 1)) ∧
    (State.compressCall [0x80] 9 1 false).ras.map Prod.fst ≠ List.range ((1 : Int).toNat * rowBytes 9) ∧
    (State.compressCall [0x80] 9 1 false).stage = .idle := by decide +kernel

theorem witness_ResetValues : State.reset = State.reset := rfl

theorem witness_ErrorIsStickyAndFinal :
    StatusOk midBad ∧ (nextOf (step midBad)).map (fun t => (t.stage, t.err)) = some (.failed, .decompressionError) ∧
    (row8 .failed [] [] 0 .white).stage = .failed ∧ midBad.stage ≠ .idle :=
  ⟨by unfold StatusOk; decide +kernel, by decide +kernel, by decide +kernel, by decide +kernel⟩

theorem witness_ErrorKindsByStep :
    CallOk midBad ∧ TempOk midBad ∧ (nextOf (step midBad)).map State.stage = some .failed :=
  ⟨midBad_call, midBad_temp, by decide +kernel⟩

theorem witness_ConfigurationIsConstant : (nextOf (step midH)).isSome = true := by decide +kernel

theorem witness_BitPositionNeverDecreases :
    CursorOk midH ∧ (nextOf (step midH)).map (fun t => t.rd.bitPos) = some 3 ∧ midH.stage ≠ .idle :=
  ⟨midH_cursor, by decide +kernel, by decide +kernel⟩

/-- A Pass to column 5, and a Horizontal in the middle of its runs. -/
def midPass : State := latched .pass [2, 5] [] (-1) .white

def midHoriz : State := onBytes (row8 .horiz [] [] (-1) .white) [0x8E]

theorem witness_ActionsAdvanceA0 :
    (CallOk midPass ∧ (nextOf (step midPass)).map (fun t => (t.a0, t.stage)) = some (5, .readMode)) ∧
    (CallOk midHoriz ∧ (nextOf (step midHoriz)).map (fun t => (t.r1, t.stage)) = some (some 3, .horiz)) :=
  ⟨⟨callOk_of (rowOk_of (by decide +kernel) (by decide +kernel) (by decide +kernel)) (by decide +kernel)
      (by decide +kernel) (by decide +kernel) (by decide +kernel) (by decide +kernel) rfl, by decide +kernel⟩,
    callOk_of (rowOk_of (by decide +kernel) (by decide +kernel) (by decide +kernel)) (by decide +kernel)
      (by decide +kernel) (by decide +kernel) (by decide +kernel) (by decide +kernel) rfl, by decide +kernel⟩

theorem witness_MemoryStatusTempKept :
    MemoryOk midH ∧ StatusOk midH ∧ TempOk midH ∧ (nextOf (step midH)).isSome = true :=
  ⟨midH_memory, midH_status, midH_temp, by decide +kernel⟩

theorem witness_CursorInvariantKept : CursorOk midH ∧ (nextOf (step midH)).isSome = true :=
  ⟨midH_cursor, by decide +kernel⟩

theorem witness_WriterInvariantKept : WriterOk midH.wr ∧ (nextOf (step midH)).isSome = true :=
  ⟨midH_writer, by decide +kernel⟩

/-- The end of the last of two rows, whose step goes to `DONE`. -/
def lastRowEnd : State :=
  { row8 .rowEnd [3, 5] [2, 6] 8 .black with height := 2, row := 1, ras := [(0, 0x18)] }

theorem witness_CallInvariantKept :
    (CallOk midH ∧ RasOk midH ∧ (nextOf (step midH)).isSome = true) ∧
    (CallOk lastRowEnd ∧ RasOk lastRowEnd ∧ (nextOf (step lastRowEnd)).map (fun t => (t.call, t.stage)) =
      some (.decompress, .done)) :=
  ⟨⟨midH_call, ⟨by decide +kernel, by decide +kernel, by decide +kernel⟩, by decide +kernel⟩,
    ⟨fun _ => rowOk_of (by decide +kernel) (by decide +kernel) (by decide +kernel),
      fun h => absurd h (by decide +kernel), by decide +kernel, by decide +kernel, by decide +kernel,
      by decide +kernel, by decide +kernel, fun _ h => absurd h (by decide +kernel)⟩,
    ⟨by decide +kernel, by decide +kernel, by decide +kernel⟩, by decide +kernel⟩

theorem witness_StagesFollowTable : CallOk midH ∧ (nextOf (step midH)).map State.stage = some .horiz :=
  ⟨midH_call, by decide +kernel⟩

/-- The encoder at the start of its one row, with the raster `80`. -/
def encoderRow : State := { row8 .busy [] [] (-1) .white with call := .compress, ras := [(0, 0x80)] }

theorem witness_RunningCallNeverStuck :
    (CallOk midH ∧ TempOk midH ∧ SrcLoaded midH ∧ midH.stage.running = true) ∧
    (∀ a, a < encoderRow.height.toNat * rowBytes encoderRow.width → (encoderRow.ras.read a).isSome) ∧
    RowOk encoderRow :=
  ⟨⟨midH_call, midH_temp, midH_loaded, by decide +kernel⟩, by decide +kernel,
    rowOk_of (by decide +kernel) (by decide +kernel) (by decide +kernel)⟩

theorem witness_TransitionIsRunOfSteps : State.atBoundary (onBytes (row8 .horiz [] [] (-1) .white) [0x8E]) :=
  ⟨rfl, rfl, rfl⟩

/-- C1 (Pass), C3 (the largest offset of a Vertical) and C2 (one beyond it: Horizontal). -/
theorem witness_EncoderChoosesMode :
    ((encoding [2, 6] [7] (-1) .white).stage = .busy ∧ (encoding [2, 6] [7] (-1) .white).rowOpen = true ∧
      findB 8 [2, 6] (-1) .white = (2, 6) ∧ findA 8 (-1) [7] = (7, 8) ∧ (6 : Int) < 7) ∧
    (findA 8 (-1) [5] = (5, 8) ∧ (5 : Int) ≤ 6 ∧ (5 : Int) - 2 ≤ 3) ∧
    (findA 8 (-1) [6] = (6, 8) ∧ (6 : Int) ≤ 6 ∧ (3 : Int) < 6 - 2) := by decide +kernel

theorem witness_EncoderRowEdges :
    (encoderRow.stage = .busy ∧ encoderRow.rowOpen = false ∧
      encoderRow.ras.readBytes (encoderRow.row * rowBytes encoderRow.width) (rowBytes encoderRow.width) =
        some [0x80]) ∧
    ((encoding [] [] 8 .black).rowOpen = true ∧ (encoding [] [] 8 .black).width ≤ (encoding [] [] 8 .black).a0) ∧
    ((encoding [] [] 8 .black).row : Int) + 1 = (encoding [] [] 8 .black).height ∧
    (({ encoding [] [] 8 .black with height := 2 } : State).row : Int) + 1 ≠ 2 := by decide +kernel

theorem witness_EncoderStepAdvances :
    (encoding [] [3, 5] (-1) .white).stage = .busy ∧ (encoding [] [3, 5] (-1) .white).rowOpen = true ∧
    RowOk (encoding [] [3, 5] (-1) .white) ∧ ParityOk (encoding [] [3, 5] (-1) .white) :=
  ⟨by decide +kernel, by decide +kernel,
    rowOk_of (by decide +kernel) (by decide +kernel) (by decide +kernel), by unfold ParityOk; decide +kernel⟩

/-- P1, row 0: the encoder chooses `H WT3 BT2`, and the decoder's stream begins with it. -/
theorem witness_EncoderLockStep :
    (RowOk (encoding [] [3, 5] (-1) .white) ∧ TempOk midH ∧ CursorOk midH ∧ SrcLoaded midH) ∧
    (midH.stage = .readMode ∧ midH.width = 8 ∧ midH.ref = [] ∧ midH.a0 = -1 ∧ midH.color = .white ∧
      midH.cur = (encoding [] [3, 5] (-1) .white).cur.filter (fun x => decide (x ≤ -1))) ∧
    midH.upcoming = encodeAll ((encoding [] [3, 5] (-1) .white).choice.words .white (-1)) ++
      digits [1,0,0,0,0,0,0] :=
  ⟨⟨rowOk_of (by decide +kernel) (by decide +kernel) (by decide +kernel), midH_temp, midH_cursor, midH_loaded⟩,
    by decide +kernel, by decide +kernel⟩

/-- E8: two rows of width 4 with padding bits set; S6: the raster `80` of width 2, whose padding bits are 0. -/
theorem witness_DecompressInvertsCompress :
    (([0x9F, 0xE7] : List Byte).length = (2 : Int).toNat * rowBytes 4 ∧
      packedPixel (packedRow [0x9F, 0xE7] 4 0) 4 = true) ∧
    (([0x80] : List Byte).length = (1 : Int).toNat * rowBytes 2 ∧ RasterOk [0x80] 2 1) := by
  refine ⟨by decide +kernel, by decide +kernel, by decide +kernel, fun r hr x h1 h2 => ?_⟩
  have hr : r < 1 := hr
  have h1 : 2 ≤ x := h1
  interval_cases r
  have h2 : x < 8 := h2
  interval_cases x <;> decide

end Sys2Proof.Tests
end

section
/-!
PROOFS. What a successful read does to the cursor, and what it keeps (10_state.md R20 to R26).
-/

namespace Sys2Proof.Machine

theorem legalWidth_iff {n : Int} :
    legalWidth n = true ↔ (1 ≤ n ∧ n ≤ 8) ∨ n = 16 ∨ n = 24 ∨ n = 32 := by
  simp [legalWidth, or_assoc]

/-- A read takes pending bits, or pulls one byte and takes bits of it, or takes `m` whole bytes. -/
theorem Cursor.readBits_value {c c' : Cursor} {src : Memory} {srcLen v : Nat} {n : Int}
    (h : c.readBits src srcLen n = .value v c') :
    (0 < c.rem ∧ n.toNat ≤ c.rem ∧ c' = { c with rem := c.rem - n.toNat }) ∨
    (c.rem = 0 ∧ c.bytesRead < srcLen ∧ 1 ≤ n.toNat ∧ n.toNat ≤ 8 ∧ ∃ b, src.read c.bytesRead = some b ∧
      c' = { c with cache := b, bytesRead := c.bytesRead + 1, rem := 8 - n.toNat }) ∨
    (c.rem = 0 ∧ ∃ m, n.toNat = 8 * m ∧ c.bytesRead + m ≤ srcLen ∧
      c' = { c with bytesRead := c.bytesRead + m }) := by
  unfold Cursor.readBits at h
  split at h
  next => cases h
  next hlegal =>
    have hwidth := legalWidth_iff.1 (by simpa using hlegal)
    split at h
    next hsmall =>
      rcases Cursor.subByteRead_value h with ⟨hrem, hn, -, hc⟩ | ⟨hrem, hlen, b, hb, hn, -, hc⟩
      · exact .inl ⟨by omega, hn, hc⟩
      · exact .inr (.inl ⟨hrem, hlen, by omega, hn, b, hb, hc⟩)
    next =>
      split at h
      next h8 =>
        obtain ⟨hrem, hlen, b, -, -, hc⟩ := Cursor.byteRead_value h
        exact .inr (.inr ⟨hrem, 1, by omega, hlen, hc⟩)
      next =>
        obtain ⟨hrem, hlen, bs, -, -, hc⟩ := Cursor.multiByteRead_value h
        exact .inr (.inr ⟨hrem, n.toNat / 8, by omega, hlen, hc⟩)

theorem Cursor.readBits_order {c c' : Cursor} {src : Memory} {srcLen v : Nat} {n : Int}
    (h : c.readBits src srcLen n = .value v c') : c'.order = c.order := by
  rcases Cursor.readBits_value h with ⟨-, -, rfl⟩ | ⟨-, -, -, -, b, -, rfl⟩ | ⟨-, m, -, -, rfl⟩ <;> rfl

theorem Cursor.readBits_bytesRead_le {c c' : Cursor} {src : Memory} {srcLen v : Nat} {n : Int}
    (h : c.readBits src srcLen n = .value v c') : c.bytesRead ≤ c'.bytesRead := by
  rcases Cursor.readBits_value h with ⟨-, -, rfl⟩ | ⟨-, -, -, -, b, -, rfl⟩ | ⟨-, m, -, -, rfl⟩ <;> simp

/-- A read of `n` bits advances the bit position by `n` (10_state.md R22). -/
theorem readBits_bitPos {s : State} {c : Cursor} {v : Nat} {n : Int} (hs : CursorOk s)
    (h : s.rd.readBits s.src s.srcLen n = .value v c) : c.bitPos = s.rd.bitPos + n.toNat := by
  unfold Cursor.bitPos
  rcases Cursor.readBits_value h with ⟨hrem, hn, rfl⟩ | ⟨hrem, -, -, hn, b, -, rfl⟩ | ⟨hrem, m, hm, -, rfl⟩
  · have hbytes := (hs.cached hrem).1
    have hsmall := hs.rem_small
    dsimp only
    omega
  · dsimp only
    omega
  · dsimp only
    omega

theorem readBits_keeps_cursorOk {s : State} {c : Cursor} {v : Nat} {n : Int} (hs : CursorOk s)
    (h : s.rd.readBits s.src s.srcLen n = .value v c) : CursorOk { s with rd := c } := by
  rcases Cursor.readBits_value h with ⟨hrem, hn, rfl⟩ | ⟨hrem, hlen, hpos, hn, b, hb, rfl⟩ | ⟨hrem, m, hm, hlen, rfl⟩
  · exact ⟨(Nat.sub_le _ _).trans hs.rem_small, hs.in_source, fun _ => hs.cached hrem⟩
  · exact ⟨show 8 - n.toNat ≤ 7 by omega, hlen, fun _ => ⟨Nat.le_add_left 1 _, hb⟩⟩
  · exact ⟨hs.rem_small, hlen, fun h0 => absurd hrem (Nat.ne_of_gt h0)⟩

theorem flush_bitPos {s : State} (hs : CursorOk s) : s.rd.flush.bitPos = (s.rd.bitPos + 7) / 8 * 8 := by
  have hsmall := hs.rem_small
  have hbytes : 0 < s.rd.rem → 1 ≤ s.rd.bytesRead := fun h => (hs.cached h).1
  simp only [Cursor.bitPos, Cursor.flush]
  omega

theorem flush_keeps_cursorOk {s : State} (hs : CursorOk s) : CursorOk { s with rd := s.rd.flush } :=
  ⟨Nat.zero_le 7, hs.in_source, fun h => absurd h (Nat.lt_irrefl 0)⟩

/-- Settles O16: a read moves the position by its width, a flush to the next byte boundary. -/
theorem bitPositionAdvances : Obligations.BitPositionAdvances := by
  intro s hs
  exact ⟨fun n v c h => ⟨readBits_bitPos hs h, readBits_keeps_cursorOk hs h⟩, flush_bitPos hs,
    flush_keeps_cursorOk hs⟩

/-! ### Moving the cursor forward -/

/-- From `s` the cursor may move on to `c`: the byte order stays, nothing is read back, and a well-formed cursor
stays well formed. Every operation on the stream is such a move. -/
structure State.ReadsTo (s : State) (c : Cursor) : Prop where
  order_eq : c.order = s.rd.order
  bytes_le : s.rd.bytesRead ≤ c.bytesRead
  pos_le : CursorOk s → s.rd.bitPos ≤ c.bitPos
  keeps_ok : CursorOk s → CursorOk { s with rd := c }

theorem State.readsTo_self (s : State) : s.ReadsTo s.rd := ⟨rfl, Nat.le_refl _, fun _ => Nat.le_refl _, id⟩

/-- The cursor invariants speak of the cursor and the source alone. -/
theorem cursorOk_of_eq {s t : State} (hrd : t.rd = s.rd) (hsrc : t.src = s.src) (hlen : t.srcLen = s.srcLen)
    (hs : CursorOk s) : CursorOk t :=
  ⟨hrd ▸ hs.rem_small, hrd ▸ hlen ▸ hs.in_source, hrd ▸ hsrc ▸ hs.cached⟩

theorem State.ReadsTo.trans {s t : State} {d : Cursor} (h : s.ReadsTo t.rd) (hsrc : t.src = s.src)
    (hlen : t.srcLen = s.srcLen) (h' : t.ReadsTo d) : s.ReadsTo d := by
  have hok : CursorOk s → CursorOk t := fun hs =>
    cursorOk_of_eq (s := { s with rd := t.rd }) rfl hsrc hlen (h.keeps_ok hs)
  exact ⟨h'.order_eq.trans h.order_eq, h.bytes_le.trans h'.bytes_le,
    fun hs => (h.pos_le hs).trans (h'.pos_le (hok hs)),
    fun hs => cursorOk_of_eq (s := { t with rd := d }) rfl hsrc.symm hlen.symm (h'.keeps_ok (hok hs))⟩

theorem readBits_readsTo {s : State} {c : Cursor} {v : Nat} {n : Int}
    (h : s.rd.readBits s.src s.srcLen n = .value v c) : s.ReadsTo c :=
  ⟨Cursor.readBits_order h, Cursor.readBits_bytesRead_le h,
    fun hs => readBits_bitPos hs h ▸ Nat.le_add_right _ _, fun hs => readBits_keeps_cursorOk hs h⟩

theorem flush_readsTo (s : State) : s.ReadsTo s.rd.flush :=
  ⟨rfl, Nat.le_refl _, fun _ => Nat.sub_le_sub_left (Nat.zero_le _) _, flush_keeps_cursorOk⟩

/-- The start of a row moves the cursor only by its flush (43_rows_and_raster.md R251). -/
theorem beginRow_readsTo (s : State) : s.ReadsTo s.beginRow.rd := by
  rw [State.beginRow_rd]
  split
  · exact flush_readsTo s
  · exact s.readsTo_self

/-- The cursor after what a row start does first and the bits read after it. -/
theorem readsTo_of_beforeWord {s : State} {c : Cursor} (h : s.beforeWord.ReadsTo c) : s.ReadsTo c := by
  unfold State.beforeWord at h
  split at h
  · exact (beginRow_readsTo s).trans rfl rfl h
  · exact h

theorem nextBit_readsTo {s s' : State} {b : Bool} (h : s.nextBit = .bit b s') :
    ∃ c, s' = { s with rd := c } ∧ s.ReadsTo c := by
  obtain ⟨v, c, hv, -, rfl⟩ := State.nextBit_bit h
  exact ⟨c, rfl, readBits_readsTo (n := 1) ((Cursor.readBits_one ..).trans hv)⟩

/-- `s'` is `s` with the cursor moved on. -/
def State.MovedOn (s s' : State) : Prop := ∃ c, s' = { s with rd := c } ∧ s.ReadsTo c

theorem nextBit_movedOn {s s' s'' : State} {b : Bool} (h : s'.nextBit = .bit b s'') (hs : s.MovedOn s') :
    s.MovedOn s'' := by
  obtain ⟨c, rfl, hc⟩ := hs
  obtain ⟨d, rfl, hd⟩ := nextBit_readsTo h
  exact ⟨d, rfl, hc.trans (t := { s with rd := c }) rfl rfl hd⟩

/-- A fetched code word is a row of the table in force, and fetching it moves the cursor and nothing else
(30_encoding.md R101, R102). -/
theorem fetchWord_run {ctx : Context} {s s' : State} {i : Instr} (h : fetchWord ctx s = .run i s') :
    i ∈ tableOf ctx ∧ s.MovedOn s' := by
  have hkeep := decodeLoop_keeps (P := s.MovedOn) (fun _ _ _ => nextBit_movedOn) (ctx := ctx)
    (n := maxLen ctx) (code := []) ⟨s.rd, rfl, s.readsTo_self⟩
  rcases fetchWord_cases ctx s with ⟨j, u, hd, hf⟩ | ⟨u, hd, hf⟩ | ⟨u, hd, hf⟩ | ⟨hd, hf⟩
  · obtain ⟨rfl, rfl⟩ : j = i ∧ u = s' := by simpa [hf] using h
    unfold decodeWith at hd
    exact ⟨decodeLoop_mem hd, by simpa [hd] using hkeep⟩
  all_goals simp [hf] at h

/-- A code word that cannot be read ends the call: its context's error where no row matches, and
`DecompressionError` where the source ends (42_mode_codes.md R213, 40_bitcursor.md R150). -/
theorem fetchWord_go {ctx : Context} {s t : State} (h : fetchWord ctx s = .go t) :
    ∃ s', s.MovedOn s' ∧ (t = s'.raiseNoRow ctx ∨ t = s'.raiseData .truncated) := by
  have hkeep := decodeLoop_keeps (P := s.MovedOn) (fun _ _ _ => nextBit_movedOn) (ctx := ctx)
    (n := maxLen ctx) (code := []) ⟨s.rd, rfl, s.readsTo_self⟩
  rcases fetchWord_cases ctx s with ⟨j, u, hd, hf⟩ | ⟨u, hd, hf⟩ | ⟨u, hd, hf⟩ | ⟨hd, hf⟩
  · simp [hf] at h
  · obtain rfl : u.raiseNoRow ctx = t := by simpa [hf] using h
    unfold decodeWith at hd
    exact ⟨u, by simpa [hd] using hkeep, .inl rfl⟩
  · obtain rfl : u.raiseData .truncated = t := by simpa [hf] using h
    unfold decodeWith at hd
    exact ⟨u, by simpa [hd] using hkeep, .inr rfl⟩
  · simp [hf] at h

end Sys2Proof.Machine
end

section
/-!
PROOFS. Bytes written at the end of a dense memory, and what every operation of the writer keeps
(10_state.md R27).
-/

namespace Sys2Proof.Machine

theorem Memory.holdsExactly_iff {m : Memory} {n : Nat} : m.holdsExactly n = true ↔ m.map Prod.fst = List.range n :=
  beq_iff_eq

/-- A write beyond the last address appends. -/
theorem Memory.write_beyond {m : Memory} {a : Nat} (h : ∀ k ∈ m.map Prod.fst, k < a) (b : Byte) :
    m.write a b = m ++ [(a, b)] := by
  induction m with
  | nil => rfl
  | cons e m ih =>
    obtain ⟨k, c⟩ := e
    have hk : k < a := h k (by simp)
    have hm : ∀ k ∈ m.map Prod.fst, k < a := fun k hk => h k (List.mem_cons_of_mem _ hk)
    rw [Memory.write, if_neg (by omega), if_neg (by omega), ih hm, List.cons_append]

theorem Memory.holdsExactly_write {m : Memory} {n : Nat} (h : m.holdsExactly n = true) (b : Byte) :
    (m.write n b).holdsExactly (n + 1) = true := by
  rw [Memory.holdsExactly_iff] at h ⊢
  rw [Memory.write_beyond (by simp [h]), List.map_append, h, List.range_succ, List.map_singleton]

theorem Memory.holdsExactly_writeBytes {m : Memory} {n : Nat} (h : m.holdsExactly n = true) (bs : List Byte) :
    (m.writeBytes n bs).holdsExactly (n + bs.length) = true := by
  induction bs generalizing m n with
  | nil => exact h
  | cons b bs ih =>
    rw [Memory.writeBytes, List.length_cons, Nat.add_comm bs.length 1, ← Nat.add_assoc]
    exact ih (Memory.holdsExactly_write h b)

/-- What has just been written is read back. -/
theorem Memory.readBytes_writeBytes (m : Memory) (a : Nat) (bs : List Byte) :
    (m.writeBytes a bs).readBytes a bs.length = some bs := by
  have hread : ∀ j, j < bs.length → (m.writeBytes a bs).read (a + j) = bs[j]? :=
    fun j hj => Memory.read_writeBytes_inside m a bs hj
  obtain ⟨out, hout⟩ := Option.isSome_iff_exists.1
    (Memory.readBytes_isSome (m := m.writeBytes a bs) (a := a) (n := bs.length) fun j hj => by simp [hread j hj, hj])
  have hlen := Memory.length_readBytes hout
  rw [hout]
  congr 1
  refine List.ext_getElem? fun j => ?_
  by_cases hj : j < bs.length
  · rw [Memory.readBytes_get hout hj, hread j hj]
  · rw [List.getElem?_eq_none (by omega), List.getElem?_eq_none (by omega)]

/-! ### The writer -/

/-- A writer may go from `w` to `w'`: the byte order stays, and so do its invariants and the canonical form of
`SINK`. -/
structure BitWriter.WritesTo (w w' : BitWriter) : Prop where
  order_eq : w'.order = w.order
  keeps_ok : WriterOk w → WriterOk w'
  keeps_wf : Memory.wf w.sink → Memory.wf w'.sink

theorem BitWriter.writesTo_self (w : BitWriter) : w.WritesTo w := ⟨rfl, id, id⟩

theorem BitWriter.WritesTo.trans {w w' w'' : BitWriter} (h : w.WritesTo w') (h' : w'.WritesTo w'') : w.WritesTo w'' :=
  ⟨h'.order_eq.trans h.order_eq, fun hw => h'.keeps_ok (h.keeps_ok hw), fun hw => h'.keeps_wf (h.keeps_wf hw)⟩

theorem writerOk_fresh (order : ByteOrder) : WriterOk (BitWriter.fresh order) :=
  ⟨Nat.zero_le 7, fun _ _ => BitVec.getLsbD_zero, rfl⟩

theorem BitWriter.writesTo_fresh (w : BitWriter) : w.WritesTo (BitWriter.fresh w.order) :=
  ⟨rfl, fun _ => writerOk_fresh _, fun _ => Memory.wf_nil⟩

theorem BitWriter.append_writesTo (w : BitWriter) (bs : List Byte) : w.WritesTo (w.append bs) :=
  ⟨rfl, fun hw => ⟨hw.cnt_small, hw.unwritten_zero, Memory.holdsExactly_writeBytes hw.sink_dense bs⟩,
    fun hw => Memory.wf_writeBytes hw _ bs⟩

/-- A completed byte is appended as it stands, whatever has been placed in it. -/
theorem BitWriter.completeByte_writesTo {w w' : BitWriter} (horder : w'.order = w.order) (hsink : w'.sink = w.sink)
    (hlen : w'.sinkLen = w.sinkLen) : w.WritesTo w'.completeByte where
  order_eq := horder
  keeps_ok hw := ⟨Nat.zero_le 7, fun _ _ => BitVec.getLsbD_zero,
    Memory.holdsExactly_writeBytes (n := w'.sinkLen) (by rw [hsink, hlen]; exact hw.sink_dense) [w'.acc]⟩
  keeps_wf hw := Memory.wf_writeBytes (m := w'.sink) (by rw [hsink]; exact hw) w'.sinkLen [w'.acc]

/-- A field that leaves the byte incomplete keeps the positions below it 0. -/
theorem BitWriter.place_writesTo {w : BitWriter} {n : Nat} (v : Int) (h : n ≤ 8 - w.cnt) (hne : w.cnt + n ≠ 8) :
    w.WritesTo (w.place n v) where
  order_eq := rfl
  keeps_ok hw := by
    have hcnt := hw.cnt_small
    refine ⟨show w.cnt + n ≤ 7 by omega, fun j hj => ?_, hw.sink_dense⟩
    have hj : j < 8 - (w.cnt + n) := hj
    have hlow : (lowField n v <<< (8 - w.cnt - n)).testBit j = false := by
      rw [Nat.testBit_shiftLeft, decide_eq_false (by omega), Bool.false_and]
    simp [BitWriter.place, hw.unwritten_zero j (by omega), BitVec.getLsbD_ofNat, hlow]
  keeps_wf := id

theorem BitWriter.writeBits_writesTo {w w' : BitWriter} {n v : Int} (h : w.writeBits n v = .ok w') :
    w.WritesTo w' := by
  unfold BitWriter.writeBits at h
  split at h
  next => cases h
  next =>
    split at h
    next =>
      rcases BitWriter.subByteWrite_ok h with ⟨hn, ⟨-, rfl⟩ | ⟨hne, rfl⟩⟩
      · exact BitWriter.completeByte_writesTo rfl rfl rfl
      · exact BitWriter.place_writesTo v hn hne
    next =>
      obtain ⟨-, rfl⟩ := BitWriter.alignedWrite_ok h
      exact w.append_writesTo _

theorem BitWriter.pad_writesTo (w : BitWriter) : w.WritesTo w.pad := by
  unfold BitWriter.pad
  split
  · exact BitWriter.completeByte_writesTo rfl rfl rfl
  · exact w.writesTo_self

theorem BitWriter.emitBit_writesTo (w : BitWriter) (b : Bool) : w.WritesTo (w.emitBit b) := by
  unfold BitWriter.emitBit
  split
  next w' h => exact BitWriter.writeBits_writesTo h
  next => exact w.writesTo_self

theorem BitWriter.emit_writesTo (w : BitWriter) (bits : Bits) : w.WritesTo (w.emit bits) := by
  induction bits generalizing w with
  | nil => exact w.writesTo_self
  | cons b bits ih => exact (w.emitBit_writesTo b).trans (ih (w.emitBit b))

end Sys2Proof.Machine
end

section
/-!
PROOFS. What an instruction and a step can do: one lemma for each kind of code word and command, and from them
the cases of a step, each with its guards and the state it goes to (43_rows_and_raster.md R270).
-/

namespace Sys2Proof.Machine

/-! ### The meanings of the words of one table -/

/-- The shared meaning of the run code words of a class (41_run_codes.md R184 to R188). -/
def runMeaning : WordClass → Nat → State → Result
  | .whiteTerm, n => terminating .white n
  | .whiteMakeup, n => makeup .white n
  | .blackTerm, n => terminating .black n
  | .blackMakeup, n => makeup .black n
  | .extMakeup, n => extendedMakeup n
  | .mode, _ | .eol, _ | .tag, _ | .command, _ => fun _ => .refused .outOfContext

/-- A run code word means what its class means for its value. -/
theorem exec_runWord {i : Instr} {n : Nat} (h : runValue i = some n) : exec i = runMeaning i.format n := by
  cases i <;> cases h <;> rfl

theorem runValue_isSome_of_mem {c : Color} : ∀ i ∈ runWords c, (runValue i).isSome := by
  cases c <;> decide

/-- A run code word lets the run being read grow or ends it. -/
theorem exec_runWord_next {c : Color} {i : Instr} {s t : State} (hi : i ∈ runWords c) (h : exec i s = .next t) :
    ∃ n, t = s.addRun n ∨ t = s.finishRun n := by
  obtain ⟨v, hv⟩ := Option.isSome_iff_exists.1 (runValue_isSome_of_mem i hi)
  rw [exec_runWord hv] at h
  generalize i.format = f at h
  cases f with
  | whiteTerm => exact ⟨_, .inr (terminating_next h).2⟩
  | whiteMakeup => exact ⟨_, .inl (makeup_next h).2⟩
  | blackTerm => exact ⟨_, .inr (terminating_next h).2⟩
  | blackMakeup => exact ⟨_, .inl (makeup_next h).2⟩
  | extMakeup => exact ⟨_, .inl (extendedMakeup_next h).2⟩
  | mode => cases h
  | eol => cases h
  | tag => cases h
  | command => cases h

theorem exec_offsetInstr (o : Offset) : exec (offsetInstr o) = vertical o := by
  cases o <;> rfl

theorem mem_modeWords {i : Instr} (h : i ∈ modeWords) : i = .h ∨ i = .p ∨ ∃ o, i = offsetInstr o := by
  simp only [modeWords, List.mem_cons, List.not_mem_nil, or_false] at h
  rcases h with rfl | rfl | rfl | rfl | rfl | rfl | rfl | rfl | rfl
  · exact .inr (.inr ⟨.zero, rfl⟩)
  · exact .inl rfl
  · exact .inr (.inl rfl)
  · exact .inr (.inr ⟨.right1, rfl⟩)
  · exact .inr (.inr ⟨.left1, rfl⟩)
  · exact .inr (.inr ⟨.right2, rfl⟩)
  · exact .inr (.inr ⟨.left2, rfl⟩)
  · exact .inr (.inr ⟨.right3, rfl⟩)
  · exact .inr (.inr ⟨.left3, rfl⟩)

/-- A mode word in `READ_MODE` latches `b1`, `b2` and the mode it names (42_mode_codes.md R212). -/
theorem exec_modeWord_next {i : Instr} {s t : State} (hi : i ∈ modeWords) (hs : s.stage = .readMode)
    (h : exec i s = .next t) :
    t = { s.latchB with stage := .horiz, tot := 0, r1 := none } ∨ t = { s.latchB with stage := .pass } ∨
      ∃ o, t = { s.latchB with k := o, stage := .vert } := by
  rcases mem_modeWords hi with rfl | rfl | ⟨o, rfl⟩
  · refine .inl (Host.Outcome.next.inj (h.symm.trans ?_))
    simp [exec, execH, hs]
  · refine .inr (.inl (Host.Outcome.next.inj (h.symm.trans ?_)))
    simp [exec, execP, hs]
  · rw [exec_offsetInstr] at h
    rcases vertical_next h with ⟨-, rfl⟩ | ⟨hvert, -⟩
    · exact .inr (.inr ⟨o, rfl⟩)
    · simp [hs] at hvert

theorem exec_eol_next {s t : State} (h : exec .eol s = .next t) : t = { s with eolSeen := true } := by
  rw [show exec .eol s = execEol s from rfl] at h
  unfold execEol at h
  split at h
  next => cases h; rfl
  next => cases h

theorem exec_tagWord_next {i : Instr} {s t : State} (hi : i ∈ tableOf .tag) (h : exec i s = .next t) :
    s.mixed = true ∧ (t = { s with stage := .readMode, eolSeen := false } ∨
      t = { s with stage := .oneD, a0 := 0, eolSeen := false }) := by
  simp only [tableOf, List.mem_cons, List.not_mem_nil, or_false] at hi
  rcases hi with rfl | rfl
  · rw [show exec .tag0 s = execTag0 s from rfl] at h
    unfold execTag0 at h
    split at h
    next hc => cases h; exact ⟨hc.2.1, .inl rfl⟩
    next => cases h
  · rw [show exec .tag1 s = execTag1 s from rfl] at h
    unfold execTag1 at h
    split at h
    next hc => cases h; exact ⟨hc.2.1, .inr rfl⟩
    next => cases h

/-- The meaning of a command by its width (40_bitcursor.md R140, R151). -/
def commandMeaning : Command → State → Result
  | .readBits n => readCommand n
  | .flush => execFlush
  | .bytesRead => execBytesRead
  | .writeBits n v => writeCommand n v
  | .pad => execPad

theorem exec_command {c : Command} {i : Instr} (h : c.instr = some i) : exec i = commandMeaning c := by
  unfold Command.instr at h
  split at h <;> cases h <;> rfl

/-- A command moves the cursor or the writer and answers its owner; it touches nothing else
(40_bitcursor.md R156). -/
theorem commandMeaning_next {cmd : Command} {s t : State} (h : commandMeaning cmd s = .next t) :
    ∃ c w r, s.ReadsTo c ∧ s.wr.WritesTo w ∧ t = { s with rd := c, wr := w, resp := r } := by
  have hrd := s.readsTo_self
  have hwr := s.wr.writesTo_self
  cases cmd with
  | readBits n =>
    rcases (readCommand_next h).2 with ⟨v, c, hv, rfl⟩ | ⟨k, -, rfl⟩
    · exact ⟨c, s.wr, _, readBits_readsTo hv, hwr, rfl⟩
    · exact ⟨s.rd, s.wr, _, hrd, hwr, rfl⟩
  | flush =>
    simp only [commandMeaning, execFlush] at h
    split at h
    next => cases h; exact ⟨_, s.wr, _, flush_readsTo s, hwr, rfl⟩
    next => cases h
  | bytesRead =>
    simp only [commandMeaning, execBytesRead] at h
    split at h
    next => cases h; exact ⟨s.rd, s.wr, _, hrd, hwr, rfl⟩
    next => cases h
  | writeBits n v =>
    rcases (writeCommand_next h).2 with ⟨w, hw, rfl⟩ | ⟨k, -, rfl⟩
    · exact ⟨s.rd, w, _, hrd, BitWriter.writeBits_writesTo hw, rfl⟩
    · exact ⟨s.rd, s.wr, _, hrd, hwr, rfl⟩
  | pad =>
    simp only [commandMeaning, execPad] at h
    split at h
    next => cases h; exact ⟨s.rd, _, _, hrd, s.wr.pad_writesTo, rfl⟩
    next => cases h

end Sys2Proof.Machine
end

section
/-!
PROOFS. The cases of a step (43_rows_and_raster.md R270, 44_encoder.md R291): every invariant is proved from them.
-/

namespace Sys2Proof.Machine

/-- The column that a choice of the encoder advances `a0` to (44_encoder.md R294, R295, R297). -/
def Choice.target : Choice → Int
  | .pass b2 => b2
  | .vertical _ a1 => a1
  | .horizontal _ a2 => a2

/-- The colour after a choice of the encoder: a Vertical flips it. -/
def Choice.nextColor (color : Color) : Choice → Color
  | .vertical _ _ => opp color
  | .pass _ | .horizontal _ _ => color

theorem State.encodeStep_eq (s : State) : s.encodeStep = { s.latchEncoder with
    wr := s.wr.emit (encodeAll (s.choice.words s.color s.a0))
    a0 := s.choice.target
    color := s.choice.nextColor s.color } := by
  unfold State.encodeStep
  cases s.choice <;> rfl

/-- The states a step can lead to. `c` is the cursor after the bits that the step has read, `w` the writer after
what it has written. -/
inductive StepCase (s : State) : State → Prop
  | startDecompress (hstage : s.stage = .idle) (hcall : s.call = .decompress)
      (hgeo : legalGeometry s.width s.height = true) :
      StepCase s { s.freshCall with ras := [], stage := .rowStart }
  | startCompress (hstage : s.stage = .idle) (hcall : s.call = .compress)
      (hgeo : legalGeometry s.width s.height = true)
      (hras : s.ras.holdsExactly (s.height.toNat * rowBytes s.width) = true) :
      StepCase s { s.freshCall with stage := .busy }
  | badGeometry (hstage : s.stage = .idle) (hcall : s.call ≠ .standalone)
      (hgeo : legalGeometry s.width s.height = false) :
      StepCase s (s.freshCall.raise .invalidGeometry none)
  | command {rest : List Command} {c : Cursor} {w : BitWriter} {r : Response} (hstage : s.stage = .idle)
      (hcall : s.call = .standalone) (hc : s.ReadsTo c) (hw : s.wr.WritesTo w) :
      StepCase s { s with cmds := rest, rd := c, wr := w, resp := r }
  | wordRaised {ctx : Context} {c : Cursor} {k : ErrKind} {sub : Option SubCause} {free : Nat}
      (hctx : s.context = some ctx) (hc : s.ReadsTo c)
      (hk : k = .decompressionError ∨ k = .eolError ∧ ctx = .eol) :
      StepCase s { ({ s.beforeWord with rd := c } : State).raise k sub with free := free }
  | actionRaised {sub : Option SubCause} {free : Nat} (hstage : s.stage = .pass ∨ s.stage = .vert) :
      StepCase s { s.raise .decompressionError sub with free := free }
  | rowBegun (hstage : s.stage = .rowStart) (htag : s.eolSeen = false) (hmixed : s.mixed = false) :
      StepCase s { s.beginRow with stage := .readMode }
  | eolRead {c : Cursor} (hstage : s.stage = .rowStart) (htag : s.eolSeen = false) (hmixed : s.mixed = true)
      (hc : s.ReadsTo c) :
      StepCase s { s.beginRow with rd := c, eolSeen := true }
  | tag0Read {c : Cursor} (hstage : s.stage = .rowStart) (htag : s.eolSeen = true) (hmixed : s.mixed = true)
      (hc : s.ReadsTo c) :
      StepCase s { s with rd := c, stage := .readMode, eolSeen := false }
  | tag1Read {c : Cursor} (hstage : s.stage = .rowStart) (htag : s.eolSeen = true) (hmixed : s.mixed = true)
      (hc : s.ReadsTo c) :
      StepCase s { s with rd := c, stage := .oneD, a0 := 0, eolSeen := false }
  | horizLatched {c : Cursor} (hstage : s.stage = .readMode) (hc : s.ReadsTo c) :
      StepCase s { s.latchB with rd := c, stage := .horiz, tot := 0, r1 := none }
  | passLatched {c : Cursor} (hstage : s.stage = .readMode) (hc : s.ReadsTo c) :
      StepCase s { s.latchB with rd := c, stage := .pass }
  | vertLatched {c : Cursor} {o : Offset} (hstage : s.stage = .readMode) (hc : s.ReadsTo c) :
      StepCase s { s.latchB with rd := c, k := o, stage := .vert }
  | passDone (hstage : s.stage = .pass) (hlow : s.a0 < s.b2) :
      StepCase s { s with a0 := s.b2, stage := nextStage s.width s.b2 }
  | vertDone {e : Int} {line : List Int} (hstage : s.stage = .vert) (he : e = s.b1 + offsetValue s.k)
      (hrec : record s.width s.cur e = some line) (hlow : s.a0 < e) (hhigh : e ≤ s.width) :
      StepCase s { s.flipColor with cur := line, a0 := e, stage := nextStage s.width e }
  | runGrown {c : Cursor} {n : Nat} (hstage : s.stage = .horiz ∨ s.stage = .oneD) (hc : s.ReadsTo c) :
      StepCase s { s with rd := c, tot := s.tot + n }
  | firstRunEnded {c : Cursor} {n : Nat} (hstage : s.stage = .horiz) (hfirst : s.r1 = none) (hc : s.ReadsTo c) :
      StepCase s { s with rd := c, r1 := some n, tot := 0 }
  | horizDone {c : Cursor} {n m : Nat} {line1 line2 : List Int} {e1 e2 : Int} (hstage : s.stage = .horiz)
      (hfirst : s.r1 = some n) (hc : s.ReadsTo c) (he1 : e1 = startColumn s.a0 + n) (he2 : e2 = e1 + m)
      (hrec1 : record s.width s.cur e1 = some line1) (hrec2 : record s.width line1 e2 = some line2)
      (hlow : s.a0 < e2) (hhigh : e2 ≤ s.width) :
      StepCase s { s with rd := c, cur := line2, a0 := e2, stage := nextStage s.width e2, tot := 0, r1 := none }
  | oneDDone {c : Cursor} {n : Nat} {e : Int} {line : List Int} (hstage : s.stage = .oneD) (hc : s.ReadsTo c)
      (he : e = s.a0 + n) (hrec : record s.width s.cur e = some line) (hhigh : e ≤ s.width) :
      StepCase s { s.flipColor with rd := c, cur := line, a0 := e, stage := nextStageOneD s.width e, tot := 0 }
  | rowEnded (hstage : s.stage = .rowEnd) : StepCase s s.endRow
  | rowLoaded {bytes : List Byte} (hstage : s.stage = .busy) (hopen : s.rowOpen = false)
      (hbytes : s.rasterRow = some bytes) :
      StepCase s { s with cur := toChangingElements bytes s.width, a0 := -1, color := .white, rowOpen := true }
  | choiceEncoded (hstage : s.stage = .busy) (hopen : s.rowOpen = true) (hlow : s.a0 < s.width) :
      StepCase s s.encodeStep
  | rowEncoded {w : BitWriter} (hstage : s.stage = .busy) (hopen : s.rowOpen = true) (hfull : s.width ≤ s.a0)
      (hw : s.wr.WritesTo w) (hmore : ((s.row + 1 : Nat) : Int) ≠ s.height) :
      StepCase s { s with wr := w, ref := s.cur, row := s.row + 1, rowOpen := false }
  | lastRowEncoded {w : BitWriter} (hstage : s.stage = .busy) (hopen : s.rowOpen = true) (hfull : s.width ≤ s.a0)
      (hw : s.wr.WritesTo w) (hlast : ((s.row + 1 : Nat) : Int) = s.height) :
      StepCase s { s with wr := w, ref := s.cur, row := s.row + 1, rowOpen := false, stage := .done }

/-! ### A step that reads a code word -/

/-- The context in force says which step is being taken. -/
theorem context_cases {s : State} {ctx : Context} (h : s.context = some ctx) :
    (ctx = .mode ∧ s.stage = .readMode) ∨
    (∃ c, ctx = .run c ∧ s.runColor = some c ∧ (s.stage = .horiz ∨ s.stage = .oneD)) ∨
    (ctx = .eol ∧ s.stage = .rowStart ∧ s.eolSeen = false ∧ s.mixed = true) ∨
    (ctx = .tag ∧ s.stage = .rowStart ∧ s.eolSeen = true) := by
  unfold State.context at h
  cases hstage : s.stage <;> simp only [hstage] at h
  case readMode => cases h; simp
  case horiz =>
    obtain ⟨c, hc, rfl⟩ := Option.map_eq_some_iff.1 h
    exact .inr (.inl ⟨c, rfl, hc, .inl rfl⟩)
  case oneD =>
    obtain ⟨c, hc, rfl⟩ := Option.map_eq_some_iff.1 h
    exact .inr (.inl ⟨c, rfl, hc, .inr rfl⟩)
  case rowStart =>
    split at h
    next htag => cases h; simp [htag]
    next htag =>
      split at h
      next hmixed => cases h; simp [htag, hmixed]
      next => cases h
  all_goals cases h

theorem beforeWord_of_stage {s : State} (h : s.stage ≠ .rowStart) : s.beforeWord = s :=
  if_neg fun hc => h hc.1

theorem beforeWord_of_eolSeen {s : State} (h : s.eolSeen = true) : s.beforeWord = s :=
  if_neg fun hc => by simp [h] at hc

theorem beforeWord_of_rowStart {s : State} (h : s.stage = .rowStart) (htag : s.eolSeen = false) :
    s.beforeWord = s.beginRow :=
  if_pos ⟨h, htag⟩

/-- Inside a run nothing is done before its next word. -/
theorem beforeWord_of_run {s : State} (h : s.stage = .horiz ∨ s.stage = .oneD) : s.beforeWord = s :=
  beforeWord_of_stage (by rcases h with h | h <;> simp [h])

/-- Where a context is in force, the step fetches a word of it, after what a row start does first. -/
theorem fetch_of_context {s : State} {ctx : Context} (h : s.context = some ctx) :
    fetch s = fetchWord ctx s.beforeWord := by
  rcases context_cases h with ⟨rfl, hstage⟩ | ⟨c, rfl, hcolor, hstage⟩ | ⟨rfl, hstage, htag, hmixed⟩ |
    ⟨rfl, hstage, htag⟩
  · rw [beforeWord_of_stage (by simp [hstage]), fetch, hstage]
  · rw [beforeWord_of_run hstage]
    rcases hstage with hstage | hstage <;> simp [fetch, hstage, fetchRun, hcolor]
  · rw [beforeWord_of_rowStart hstage htag]
    simp [fetch, hstage, fetchRowStart, htag, hmixed]
  · rw [beforeWord_of_eolSeen htag]
    simp [fetch, hstage, fetchRowStart, htag]

/-- A word that no row of its context matches, or that the source cuts short, fails the call. -/
theorem StepCase.of_fetchWord_go {s t : State} {ctx : Context} (hctx : s.context = some ctx)
    (h : fetchWord ctx s.beforeWord = .go t) : StepCase s t := by
  obtain ⟨_, ⟨c, rfl, hc⟩, ht⟩ := fetchWord_go h
  have hread := readsTo_of_beforeWord hc
  rcases ht with rfl | rfl
  · cases ctx with
    | mode => exact .wordRaised hctx hread (.inl rfl)
    | run c => exact .wordRaised hctx hread (.inl rfl)
    | eol => exact .wordRaised hctx hread (.inr ⟨rfl, rfl⟩)
    | tag => exact .wordRaised hctx hread (.inl rfl)
  · exact .wordRaised hctx hread (.inl rfl)

/-- The `VERT` step, completed or raised. -/
theorem StepCase.of_vertAction {s : State} (hstage : s.stage = .vert) : StepCase s (s.vertAction s.k) := by
  rcases s.vertAction_cases s.k with ⟨c, d, heq⟩ | ⟨c, heq⟩ | ⟨line, hrec, hlow, hhigh, heq⟩ <;> rw [heq]
  · exact .actionRaised (.inr hstage)
  · exact .actionRaised (.inr hstage)
  · exact .vertDone hstage rfl hrec hlow hhigh

/-- The `PASS` step, completed or raised. -/
theorem StepCase.of_passAction {s : State} (hstage : s.stage = .pass) : StepCase s s.passAction := by
  rcases s.passAction_cases with ⟨-, heq⟩ | ⟨hlow, heq⟩ <;> rw [heq]
  · exact .actionRaised (.inl hstage)
  · exact .passDone hstage hlow

theorem State.finishRun_oneD {s : State} (n : Nat) (h : s.stage = .oneD) : s.finishRun n = s.finishOneD n := by
  simp [State.finishRun, h]

theorem State.finishRun_first {s : State} (n : Nat) (h : s.stage = .horiz) (hfirst : s.r1 = none) :
    s.finishRun n = { s with r1 := some n, tot := 0 } := by
  simp [State.finishRun, h, hfirst]

theorem State.finishRun_second {s : State} {r : Nat} (n : Nat) (h : s.stage = .horiz) (hfirst : s.r1 = some r) :
    s.finishRun n = s.finishHorizontal r n := by
  simp [State.finishRun, h, hfirst]

/-- The end of a run: the step of a one-dimensional row, the first run of a Horizontal, or its second. -/
theorem StepCase.of_finishRun {s u : State} {ctx : Context} {c : Cursor} (n : Nat) (hctx : s.context = some ctx)
    (hstage : s.stage = .horiz ∨ s.stage = .oneD) (hc : s.ReadsTo c) (hu : u = { s with rd := c }) :
    StepCase s (u.finishRun n) := by
  have hraise (k : SubCause) (free : Nat) :
      StepCase s { u.raise .decompressionError (some k) with free := free } := by
    have h := StepCase.wordRaised (sub := some k) (free := free) hctx hc (.inl rfl)
    rwa [beforeWord_of_run hstage, ← hu] at h
  rcases hstage with hstage | hstage
  · have hustage : u.stage = .horiz := hu ▸ hstage
    have hur1 : u.r1 = s.r1 := by rw [hu]
    cases hfirst : s.r1 with
    | none =>
      rw [State.finishRun_first n hustage (hur1.trans hfirst), hu]
      exact .firstRunEnded hstage hfirst hc
    | some r =>
      rw [State.finishRun_second n hustage (hur1.trans hfirst)]
      rcases u.finishHorizontal_cases r n with
        ⟨_, _, heq⟩ | ⟨_, heq⟩ | ⟨line1, line2, hrec1, hrec2, hhigh, hlow, heq⟩ <;> rw [heq]
      · exact hraise _ _
      · exact hraise _ _
      · subst hu
        exact .horizDone hstage hfirst hc rfl rfl hrec1 hrec2 hlow hhigh
  · rw [State.finishRun_oneD n (hu ▸ hstage)]
    rcases u.finishOneD_cases n with ⟨_, heq⟩ | ⟨line, hrec, hhigh, heq⟩ <;> rw [heq]
    · exact hraise _ _
    · subst hu
      exact .oneDDone hstage hc rfl hrec hhigh

/-- A step that reads a code word. -/
theorem StepCase.of_word {s s' t : State} {ctx : Context} {i : Instr} (hctx : s.context = some ctx)
    (hf : fetchWord ctx s.beforeWord = .run i s') (h : exec i s' = .next t) : StepCase s t := by
  obtain ⟨hi, c, rfl, hc⟩ := fetchWord_run hf
  have hread := readsTo_of_beforeWord hc
  rcases context_cases hctx with ⟨rfl, hstage⟩ | ⟨_, rfl, -, hstage⟩ | ⟨rfl, hstage, htag, hmixed⟩ |
    ⟨rfl, hstage, htag⟩
  · rw [beforeWord_of_stage (by simp [hstage])] at h
    rcases exec_modeWord_next (s := { s with rd := c }) hi hstage h with rfl | rfl | ⟨o, rfl⟩
    · exact .horizLatched hstage hread
    · exact .passLatched hstage hread
    · exact .vertLatched hstage hread
  · rw [beforeWord_of_run hstage] at h
    obtain ⟨n, rfl | rfl⟩ := exec_runWord_next hi h
    · exact .runGrown hstage hread
    · exact .of_finishRun n hctx hstage hread rfl
  · rw [beforeWord_of_rowStart hstage htag] at h
    obtain rfl : i = .eol := by simpa [tableOf] using hi
    obtain rfl := exec_eol_next h
    exact .eolRead hstage htag hmixed hread
  · rw [beforeWord_of_eolSeen htag] at h
    obtain ⟨hmixed, rfl | rfl⟩ := exec_tagWord_next hi h
    · exact .tag0Read hstage htag hmixed hread
    · exact .tag1Read hstage htag hmixed hread

/-! ### A step that reads none -/

theorem StepCase.of_startDecompress {s : State} (hstage : s.stage = .idle) (hcall : s.call = .decompress) :
    StepCase s s.startDecompress := by
  unfold State.startDecompress
  split
  next hgeo => exact .startDecompress hstage hcall hgeo
  next hgeo =>
    have h : ({ s.freshCall with ras := [] } : State).raise .invalidGeometry none =
        s.freshCall.raise .invalidGeometry none := by simp [State.raise, hcall]
    exact h ▸ .badGeometry hstage (by simp [hcall]) (by simpa using hgeo)

theorem StepCase.of_startCompress {s t : State} (hstage : s.stage = .idle) (hcall : s.call = .compress)
    (h : s.startCompress.fetched = .go t) : StepCase s t := by
  unfold State.startCompress at h
  split at h
  next hgeo =>
    split at h
    next hras => cases h; exact .startCompress hstage hcall hgeo hras
    next => cases h
  next hgeo => cases h; exact .badGeometry hstage (by simp [hcall]) (by simpa using hgeo)

/-- The next command of a standalone cursor or writer. -/
theorem StepCase.of_command {s t : State} (hstage : s.stage = .idle) (hcall : s.call = .standalone)
    (h : (∃ i s', fetchCommand s = .run i s' ∧ exec i s' = .next t) ∨ fetchCommand s = .go t) : StepCase s t := by
  unfold fetchCommand at h
  split at h
  next => rcases h with ⟨i, s', h, -⟩ | h <;> cases h
  next cmd rest _ =>
    split at h
    next i hi =>
      rcases h with ⟨j, s', h, hexec⟩ | h
      · cases h
        rw [exec_command hi] at hexec
        obtain ⟨c, w, r, hc, hw, rfl⟩ := commandMeaning_next hexec
        exact .command hstage hcall (s.readsTo_self.trans (t := { s with cmds := rest }) rfl rfl hc) hw
      · cases h
    next =>
      rcases h with ⟨j, s', h, -⟩ | h
      · cases h
      · cases h; exact .command hstage hcall s.readsTo_self s.wr.writesTo_self

/-- One step of the busy encoder. -/
theorem StepCase.of_encoder {s t : State} (hstage : s.stage = .busy) (h : s.stepEncoder.fetched = .go t) :
    StepCase s t := by
  unfold State.stepEncoder at h
  split at h
  next hopen =>
    split at h
    next hlow => cases h; exact .choiceEncoded hstage hopen hlow
    next hfull =>
      cases h
      have hw : s.wr.WritesTo (if s.fill then s.wr.pad else s.wr) := by
        split
        · exact s.wr.pad_writesTo
        · exact s.wr.writesTo_self
      by_cases hlast : ((s.row + 1 : Nat) : Int) = s.height
      · rw [State.endEncodedRow, if_pos hlast]
        exact .lastRowEncoded hstage hopen (by omega) (hw.trans (BitWriter.pad_writesTo _)) hlast
      · rw [State.endEncodedRow, if_neg hlast]
        exact .rowEncoded hstage hopen (by omega) hw hlast
  next hopen =>
    unfold State.loadRow at h
    split at h
    next bytes hbytes => cases h; exact .rowLoaded hstage (by simpa using hopen) hbytes
    next => cases h

theorem EncodeOut.fetched_ne_run (o : EncodeOut) (i : Instr) (s : State) : o.fetched ≠ .run i s := by
  cases o <;> simp [EncodeOut.fetched]

/-- A step that runs no instruction goes where the fetch says. -/
theorem eq_of_fetched_go {f : Fetched} {u t : State} (hf : f = .go u)
    (h : (∃ i s', f = .run i s' ∧ exec i s' = .next t) ∨ f = .go t) : u = t := by
  subst hf
  simpa only [reduceCtorEq, false_and, exists_false, false_or, Fetched.go.injEq] using h

/-- The start of a call, or the next command. -/
theorem StepCase.of_idle {s t : State} (hstage : s.stage = .idle)
    (h : (∃ i s', fetchIdle s = .run i s' ∧ exec i s' = .next t) ∨ fetchIdle s = .go t) : StepCase s t := by
  unfold fetchIdle at h
  cases hcall : s.call with
  | decompress =>
    rw [hcall] at h
    exact eq_of_fetched_go rfl h ▸ .of_startDecompress hstage hcall
  | compress =>
    simp only [hcall, EncodeOut.fetched_ne_run, false_and, exists_false, false_or] at h
    exact .of_startCompress hstage hcall h
  | standalone =>
    simp only [hcall] at h
    exact .of_command hstage hcall h

theorem exec_p_pass {s : State} (h : s.stage = .pass) : exec .p s = .next s.passAction := by
  simp [exec, execP, h]

theorem exec_offsetInstr_vert {s : State} (o : Offset) (h : s.stage = .vert) :
    exec (offsetInstr o) s = .next (s.vertAction o) := by
  rw [exec_offsetInstr]
  simp [vertical, h]

/-- A step of a state in which no table is in force. -/
theorem StepCase.of_no_word {s t : State} (hctx : s.context = none)
    (h : (∃ i s', fetch s = .run i s' ∧ exec i s' = .next t) ∨ fetch s = .go t) : StepCase s t := by
  cases hstage : s.stage with
  | idle => exact .of_idle hstage (by simpa only [fetch, hstage] using h)
  | rowStart =>
    cases htag : s.eolSeen with
    | true => simp [State.context, hstage, htag] at hctx
    | false =>
      cases hmixed : s.mixed with
      | true => simp [State.context, hstage, htag, hmixed] at hctx
      | false =>
        have hf : fetch s = .go { s.beginRow with stage := .readMode } := by
          simp only [fetch, hstage, fetchRowStart, htag, hmixed]
          rfl
        exact eq_of_fetched_go hf h ▸ .rowBegun hstage htag hmixed
  | pass =>
    obtain rfl : s.passAction = t := by simpa [fetch, hstage, exec_p_pass hstage] using h
    exact .of_passAction hstage
  | vert =>
    obtain rfl : s.vertAction s.k = t := by simpa [fetch, hstage, exec_offsetInstr_vert s.k hstage] using h
    exact .of_vertAction hstage
  | rowEnd =>
    have hf : fetch s = .go s.endRow := by simp only [fetch, hstage]
    exact eq_of_fetched_go hf h ▸ .rowEnded hstage
  | busy =>
    simp only [fetch, hstage, EncodeOut.fetched_ne_run, false_and, exists_false, false_or] at h
    exact .of_encoder hstage h
  | readMode => simp [State.context, hstage] at hctx
  | horiz => simp [State.context, hstage, State.runColor] at hctx
  | oneD => simp [State.context, hstage, State.runColor] at hctx
  | done => simp [fetch, hstage] at h
  | failed => simp [fetch, hstage] at h

/-- What a step can do. -/
theorem stepCase_of_step {s t : State} (h : step s = .next t) : StepCase s t := by
  have hnext := step_next h
  cases hctx : s.context with
  | some ctx =>
    rw [fetch_of_context hctx] at hnext
    rcases hnext with ⟨i, s', hf, hexec⟩ | hgo
    · exact .of_word hctx hf hexec
    · exact .of_fetchWord_go hctx hgo
  | none => exact .of_no_word hctx hnext

end Sys2Proof.Machine
end

section
/-!
PROOFS. What every step keeps of the configuration, the cursor, the writer, the memories, the error status and
the temporaries (10_state.md R20 to R36).
-/

namespace Sys2Proof.Machine

/-! ### The configuration -/

/-- The registers that only the host writes. -/
structure SameConfig (s t : State) : Prop where
  width : t.width = s.width
  height : t.height = s.height
  fill : t.fill = s.fill
  mixed : t.mixed = s.mixed
  src : t.src = s.src
  srcLen : t.srcLen = s.srcLen
  call : t.call = s.call

theorem beforeWord_sameConfig (s : State) : SameConfig s s.beforeWord := by
  unfold State.beforeWord
  split <;> constructor <;> rfl

theorem StepCase.sameConfig {s t : State} (h : StepCase s t) : SameConfig s t := by
  cases h with
  | wordRaised =>
    obtain ⟨hwidth, hheight, hfill, hmixed, hsrc, hlen, hcall⟩ := beforeWord_sameConfig s
    exact ⟨hwidth, hheight, hfill, hmixed, hsrc, hlen, hcall⟩
  | choiceEncoded => rw [State.encodeStep_eq]; constructor <;> rfl
  | _ => constructor <;> rfl

/-! ### The cursor -/

/-- A step moves the cursor on, or starts it anew with a call. -/
theorem StepCase.rd {s t : State} (h : StepCase s t) :
    s.ReadsTo t.rd ∨ (s.stage = .idle ∧ s.call ≠ .standalone ∧ t.rd = Cursor.fresh s.rd.order) := by
  cases h with
  | startDecompress hstage hcall => exact .inr ⟨hstage, by simp [hcall], rfl⟩
  | startCompress hstage hcall => exact .inr ⟨hstage, by simp [hcall], rfl⟩
  | badGeometry hstage hcall => exact .inr ⟨hstage, hcall, rfl⟩
  | command hstage hcall hc => exact .inl hc
  | wordRaised hctx hc => exact .inl hc
  | rowBegun => exact .inl (beginRow_readsTo s)
  | eolRead _ _ _ hc => exact .inl hc
  | tag0Read _ _ _ hc => exact .inl hc
  | tag1Read _ _ _ hc => exact .inl hc
  | horizLatched _ hc => exact .inl hc
  | passLatched _ hc => exact .inl hc
  | vertLatched _ hc => exact .inl hc
  | runGrown _ hc => exact .inl hc
  | firstRunEnded _ _ hc => exact .inl hc
  | horizDone _ _ hc => exact .inl hc
  | oneDDone _ hc => exact .inl hc
  | choiceEncoded => rw [State.encodeStep_eq]; exact .inl s.readsTo_self
  | _ => exact .inl s.readsTo_self

theorem cursorOk_fresh {s : State} (order : ByteOrder) (h : s.rd = Cursor.fresh order) : CursorOk s :=
  ⟨by simp [h, Cursor.fresh], by simp [h, Cursor.fresh], by simp [h, Cursor.fresh]⟩

/-- Settles O48, from the cursor's moves (`State.ReadsTo`). -/
theorem cursorInvariantKept : Obligations.CursorInvariantKept := by
  intro s t hs hstep
  have hcase := stepCase_of_step hstep
  have hconfig := hcase.sameConfig
  rcases hcase.rd with hread | ⟨-, -, hfresh⟩
  · exact cursorOk_of_eq (s := { s with rd := t.rd }) rfl hconfig.src hconfig.srcLen (hread.keeps_ok hs)
  · exact cursorOk_fresh _ hfresh

/-- `ROW_END`, `PASS`, `VERT` and the encoder read no bit. -/
theorem StepCase.rd_eq {s t : State} (h : StepCase s t)
    (hstage : s.stage = .rowEnd ∨ s.stage = .pass ∨ s.stage = .vert ∨ s.stage = .busy) : t.rd = s.rd := by
  obtain ⟨hidle, hrow, hmode, hhoriz, honeD⟩ : s.stage ≠ .idle ∧ s.stage ≠ .rowStart ∧ s.stage ≠ .readMode ∧
      s.stage ≠ .horiz ∧ s.stage ≠ .oneD := by rcases hstage with h | h | h | h <;> simp [h]
  cases h with
  | startDecompress h => exact absurd h hidle
  | startCompress h => exact absurd h hidle
  | badGeometry h => exact absurd h hidle
  | command h => exact absurd h hidle
  | wordRaised hctx =>
    rcases context_cases hctx with ⟨-, h⟩ | ⟨_, -, -, h | h⟩ | ⟨-, h, -⟩ | ⟨-, h, -⟩
    · exact absurd h hmode
    · exact absurd h hhoriz
    · exact absurd h honeD
    · exact absurd h hrow
    · exact absurd h hrow
  | rowBegun h => exact absurd h hrow
  | eolRead h => exact absurd h hrow
  | tag0Read h => exact absurd h hrow
  | tag1Read h => exact absurd h hrow
  | horizLatched h => exact absurd h hmode
  | passLatched h => exact absurd h hmode
  | vertLatched h => exact absurd h hmode
  | runGrown h => exact (h.elim hhoriz honeD).elim
  | firstRunEnded h => exact absurd h hhoriz
  | horizDone h => exact absurd h hhoriz
  | oneDDone h => exact absurd h honeD
  | choiceEncoded => rw [State.encodeStep_eq]; rfl
  | _ => rfl

/-- Settles O45, from the cursor's moves. -/
theorem bitPositionNeverDecreases : Obligations.BitPositionNeverDecreases := by
  intro s t hs hstep hkeep
  have hcase := stepCase_of_step hstep
  rcases hcase.rd with hread | ⟨hidle, hcall, -⟩
  · exact ⟨hread.pos_le hs, hread.bytes_le, hcase.rd_eq⟩
  · exact absurd hkeep (by simp [hidle, hcall])

/-! ### The writer -/

theorem StepCase.wr {s t : State} (h : StepCase s t) : s.wr.WritesTo t.wr := by
  cases h with
  | startDecompress => exact s.wr.writesTo_fresh
  | startCompress => exact s.wr.writesTo_fresh
  | badGeometry => exact s.wr.writesTo_fresh
  | command _ _ _ hw => exact hw
  | wordRaised =>
    have hwr : s.beforeWord.wr = s.wr := by unfold State.beforeWord; split <;> rfl
    exact hwr.symm ▸ s.wr.writesTo_self
  | choiceEncoded => rw [State.encodeStep_eq]; exact s.wr.emit_writesTo _
  | rowEncoded _ _ _ hw => exact hw
  | lastRowEncoded _ _ _ hw => exact hw
  | _ => exact s.wr.writesTo_self

/-- Settles O49, from the writer's moves (`BitWriter.WritesTo`). -/
theorem writerInvariantKept : Obligations.WriterInvariantKept := fun _ _ hs hstep =>
  (stepCase_of_step hstep).wr.keeps_ok hs

/-- Settles O44: the byte orders stay with the cursor's and the writer's moves. -/
theorem configurationIsConstant : Obligations.ConfigurationIsConstant := by
  intro s t hstep
  have hcase := stepCase_of_step hstep
  obtain ⟨hwidth, hheight, hfill, hmixed, hsrc, hlen, hcall⟩ := hcase.sameConfig
  have horder : t.rd.order = s.rd.order := by
    rcases hcase.rd with hread | ⟨-, -, hfresh⟩
    · exact hread.order_eq
    · rw [hfresh]; rfl
  exact ⟨hwidth, hheight, hfill, hmixed, hsrc, hlen, horder, hcase.wr.order_eq, hcall⟩

end Sys2Proof.Machine
end

section
/-!
PROOFS. What every step keeps of the memories, the error status and the temporaries (10_state.md R30, R36).
-/

namespace Sys2Proof.Machine

/-! ### Memories and status -/

theorem State.raise_ras_wf {s : State} (hs : Memory.wf s.ras) (k : ErrKind) (sub : Option SubCause) :
    Memory.wf (s.raise k sub).ras := by
  rw [State.raise_ras]
  split
  · exact Memory.wf_nil
  · exact hs

theorem StepCase.ras_wf {s t : State} (h : StepCase s t) (hs : Memory.wf s.ras) : Memory.wf t.ras := by
  cases h with
  | startDecompress => exact Memory.wf_nil
  | badGeometry => exact State.raise_ras_wf (s := s.freshCall) hs _ _
  | @wordRaised _ c k sub =>
    have hword : s.beforeWord.ras = s.ras := by unfold State.beforeWord; split <;> rfl
    exact State.raise_ras_wf (s := { s.beforeWord with rd := c }) (hword ▸ hs) k sub
  | @actionRaised sub => exact State.raise_ras_wf hs .decompressionError sub
  | rowEnded => exact Memory.wf_writeBytes hs _ _
  | choiceEncoded => rw [State.encodeStep_eq]; exact hs
  | _ => exact hs

theorem StepCase.keeps_memoryOk {s t : State} (h : StepCase s t) : MemoryOk s → MemoryOk t := by
  rintro ⟨hsrc, hras, hsink⟩
  exact ⟨h.sameConfig.src ▸ hsrc, h.ras_wf hras, h.wr.keeps_wf hsink⟩

theorem statusOk_of_none {s : State} (hstage : s.stage ≠ .failed) (herr : s.err = .none) : StatusOk s :=
  iff_of_false hstage (not_not_intro herr)

theorem statusOk_of_raised {s : State} (hstage : s.stage = .failed) (herr : s.err ≠ .none) : StatusOk s :=
  iff_of_true hstage herr

theorem err_none {s : State} (hs : StatusOk s) (hstage : s.stage ≠ .failed) : s.err = .none :=
  not_not.1 fun herr => hstage (hs.2 herr)

theorem nextStage_cases (width a0 : Int) :
    (width ≤ a0 ∧ nextStage width a0 = .rowEnd) ∨ (a0 < width ∧ nextStage width a0 = .readMode) := by
  unfold nextStage
  split
  next h => exact .inl ⟨h, rfl⟩
  next h => exact .inr ⟨not_le.1 h, rfl⟩

theorem nextStageOneD_cases (width a0 : Int) :
    (width ≤ a0 ∧ nextStageOneD width a0 = .rowEnd) ∨ (a0 < width ∧ nextStageOneD width a0 = .oneD) := by
  unfold nextStageOneD
  split
  next h => exact .inl ⟨h, rfl⟩
  next h => exact .inr ⟨not_le.1 h, rfl⟩

theorem nextStage_ne {width a0 : Int} {g : Stage} (h1 : g ≠ .rowEnd) (h2 : g ≠ .readMode) :
    nextStage width a0 ≠ g := by
  rcases nextStage_cases width a0 with ⟨-, h⟩ | ⟨-, h⟩ <;> rw [h] <;> exact Ne.symm ‹_›

theorem nextStageOneD_ne {width a0 : Int} {g : Stage} (h1 : g ≠ .rowEnd) (h2 : g ≠ .oneD) :
    nextStageOneD width a0 ≠ g := by
  rcases nextStageOneD_cases width a0 with ⟨-, h⟩ | ⟨-, h⟩ <;> rw [h] <;> exact Ne.symm ‹_›

theorem StepCase.keeps_statusOk {s t : State} (h : StepCase s t) (hs : StatusOk s) : StatusOk t := by
  have hnone {g : Stage} (hg : s.stage = g) (hne : g ≠ .failed := by decide) : s.err = .none :=
    err_none hs (hg ▸ hne)
  have hrun (hg : s.stage = .horiz ∨ s.stage = .oneD) : s.err = .none := hg.elim hnone hnone
  cases h with
  | startDecompress => exact statusOk_of_none (by simp) rfl
  | startCompress => exact statusOk_of_none (by simp) rfl
  | badGeometry => exact statusOk_of_raised rfl (by simp)
  | command => exact hs
  | wordRaised _ _ hk => exact statusOk_of_raised rfl (by rcases hk with rfl | ⟨rfl, -⟩ <;> simp)
  | actionRaised => exact statusOk_of_raised rfl (by simp)
  | rowBegun hg => exact statusOk_of_none (by simp) (hnone hg)
  | eolRead hg => exact statusOk_of_none (by simp [hg]) (hnone hg)
  | tag0Read hg => exact statusOk_of_none (by simp) (hnone hg)
  | tag1Read hg => exact statusOk_of_none (by simp) (hnone hg)
  | horizLatched hg => exact statusOk_of_none (by simp) (hnone hg)
  | passLatched hg => exact statusOk_of_none (by simp) (hnone hg)
  | vertLatched hg => exact statusOk_of_none (by simp) (hnone hg)
  | passDone hg => exact statusOk_of_none (nextStage_ne (by simp) (by simp)) (hnone hg)
  | vertDone hg => exact statusOk_of_none (nextStage_ne (by simp) (by simp)) (hnone hg)
  | runGrown => exact hs
  | firstRunEnded => exact hs
  | horizDone hg => exact statusOk_of_none (nextStage_ne (by simp) (by simp)) (hnone hg)
  | oneDDone hg => exact statusOk_of_none (nextStageOneD_ne (by simp) (by simp)) (hnone hg)
  | rowEnded hg => exact statusOk_of_none (by rw [State.endRow_stage]; split <;> simp) (hnone hg)
  | rowLoaded => exact hs
  | choiceEncoded => rw [State.encodeStep_eq]; exact hs
  | rowEncoded => exact hs
  | lastRowEncoded hg => exact statusOk_of_none (by simp) (hnone hg)

/-! ### The temporaries -/

theorem tempOk_of_cleared {s : State} (htot : s.tot = 0) (hfirst : s.r1 = none) (htag : s.eolSeen = false)
    (hopen : s.rowOpen = false) : TempOk s :=
  ⟨fun _ _ => htot, fun _ => hfirst, fun h => by simp [htag] at h, fun h => by simp [hopen] at h⟩

theorem TempOk.eolSeen_eq {s : State} (hs : TempOk s) (h : s.stage ≠ .rowStart) : s.eolSeen = false :=
  Bool.eq_false_iff.2 fun htag => h (hs.tag_due htag).1

theorem TempOk.rowOpen_eq {s : State} (hs : TempOk s) (h : s.stage ≠ .busy) : s.rowOpen = false :=
  Bool.eq_false_iff.2 fun hopen => h (hs.row_open hopen)

theorem StepCase.keeps_tempOk {s t : State} (h : StepCase s t) (hs : TempOk s) : TempOk t := by
  have htot {g : Stage} (hg : s.stage = g) (h1 : g ≠ .horiz := by decide) (h2 : g ≠ .oneD := by decide) : s.tot = 0 :=
    hs.tot_zero (hg ▸ h1) (hg ▸ h2)
  have hfirst {g : Stage} (hg : s.stage = g) (h1 : g ≠ .horiz := by decide) : s.r1 = none := hs.first_run (hg ▸ h1)
  have htag {g : Stage} (hg : s.stage = g) (h1 : g ≠ .rowStart := by decide) : s.eolSeen = false :=
    hs.eolSeen_eq (hg ▸ h1)
  have hopen {g : Stage} (hg : s.stage = g) (h1 : g ≠ .busy := by decide) : s.rowOpen = false :=
    hs.rowOpen_eq (hg ▸ h1)
  cases h with
  | startDecompress => exact tempOk_of_cleared rfl rfl rfl rfl
  | startCompress => exact tempOk_of_cleared rfl rfl rfl rfl
  | badGeometry => exact tempOk_of_cleared rfl rfl rfl rfl
  | command => exact ⟨hs.tot_zero, hs.first_run, hs.tag_due, hs.row_open⟩
  | wordRaised => exact tempOk_of_cleared rfl rfl rfl rfl
  | actionRaised => exact tempOk_of_cleared rfl rfl rfl rfl
  | rowBegun hg hseen => exact tempOk_of_cleared rfl rfl hseen (hopen hg)
  | eolRead hg _ hmixed => exact ⟨fun _ _ => rfl, fun _ => rfl, fun _ => ⟨hg, hmixed⟩, hs.row_open⟩
  | tag0Read hg => exact tempOk_of_cleared (htot hg) (hfirst hg) rfl (hopen hg)
  | tag1Read hg => exact tempOk_of_cleared (htot hg) (hfirst hg) rfl (hopen hg)
  | horizLatched hg => exact tempOk_of_cleared rfl rfl (htag hg) (hopen hg)
  | passLatched hg => exact tempOk_of_cleared (htot hg) (hfirst hg) (htag hg) (hopen hg)
  | vertLatched hg => exact tempOk_of_cleared (htot hg) (hfirst hg) (htag hg) (hopen hg)
  | passDone hg => exact tempOk_of_cleared (htot hg) (hfirst hg) (htag hg) (hopen hg)
  | vertDone hg => exact tempOk_of_cleared (htot hg) (hfirst hg) (htag hg) (hopen hg)
  | runGrown hg => exact ⟨fun h1 h2 => (hg.elim h1 h2).elim, hs.first_run, hs.tag_due, hs.row_open⟩
  | firstRunEnded hg => exact ⟨fun _ _ => rfl, fun h => absurd hg h, hs.tag_due, hs.row_open⟩
  | horizDone hg => exact tempOk_of_cleared rfl rfl (htag hg) (hopen hg)
  | oneDDone hg => exact tempOk_of_cleared rfl (hfirst hg) (htag hg) (hopen hg)
  | rowEnded hg => exact tempOk_of_cleared (htot hg) (hfirst hg) (htag hg) (hopen hg)
  | rowLoaded hg => exact ⟨hs.tot_zero, hs.first_run, hs.tag_due, fun _ => hg⟩
  | choiceEncoded => rw [State.encodeStep_eq]; exact ⟨hs.tot_zero, hs.first_run, hs.tag_due, hs.row_open⟩
  | rowEncoded hg => exact tempOk_of_cleared (htot hg) (hfirst hg) (htag hg) rfl
  | lastRowEncoded hg => exact tempOk_of_cleared (htot hg) (hfirst hg) (htag hg) rfl

/-- Settles O47, case by case over what a step can do. -/
theorem memoryStatusTempKept : Obligations.MemoryStatusTempKept := by
  intro s t hstep
  have hcase := stepCase_of_step hstep
  exact ⟨hcase.keeps_memoryOk, hcase.keeps_statusOk, hcase.keeps_tempOk⟩

end Sys2Proof.Machine
end

section
/-!
PROOFS. Lines of changing elements (10_state.md R40): what `record` appends, where `findB`, `findA` and a choice of
the encoder look, what a scanned row gives, and the size of a packed row.
-/

namespace Sys2Proof.Machine

theorem lineOk_nil (width : Int) : LineOk width [] := ⟨by simp, List.Pairwise.nil⟩

/-- The last element of a strictly increasing line is its largest. -/
theorem le_getLast_of_mem {line : List Int} (h : line.Pairwise (· < ·)) {x : Int} (hx : x ∈ line) :
    ∃ l, line.getLast? = some l ∧ x ≤ l := by
  rcases List.eq_nil_or_concat line with rfl | ⟨front, l, rfl⟩
  · cases hx
  · rw [List.concat_eq_append] at h hx ⊢
    refine ⟨l, List.getLast?_concat, ?_⟩
    rcases List.mem_append.1 hx with hfront | hlast
    · exact le_of_lt ((List.pairwise_append.1 h).2.2 x hfront l (List.mem_singleton_self l))
    · exact le_of_eq (List.mem_singleton.1 hlast)

/-- An element left of the sentinel is appended. -/
theorem record_of_lt {width e : Int} {cur line : List Int} (h : record width cur e = some line) (he : e < width) :
    line = cur ++ [e] := by
  rcases record_some h with ⟨rfl, -⟩ | ⟨-, -, hline⟩
  · exact absurd he (lt_irrefl e)
  · exact hline

theorem record_keeps_lineOk {width e : Int} {cur line : List Int} (hcur : LineOk width cur) (hlow : 0 ≤ e)
    (hhigh : e ≤ width) (h : record width cur e = some line) : LineOk width line := by
  rcases record_some h with ⟨-, rfl⟩ | ⟨hne, hlast, rfl⟩
  · exact hcur
  · have hless : ∀ x ∈ cur, x < e := fun x hx =>
      have ⟨l, hl, hxl⟩ := le_getLast_of_mem hcur.2 hx
      lt_of_le_of_lt hxl (hlast l hl)
    constructor
    · intro x hx
      rcases List.mem_append.1 hx with hx | hx
      · exact hcur.1 x hx
      · rw [List.mem_singleton.1 hx]
        exact ⟨hlow, lt_of_le_of_ne hhigh hne⟩
    · refine List.pairwise_append.2 ⟨hcur.2, List.pairwise_singleton _ e, fun x hx y hy => ?_⟩
      rw [List.mem_singleton.1 hy]
      exact hless x hx

theorem record_le {width a e : Int} {cur line : List Int} (hcur : ∀ x ∈ cur, x ≤ a) (ha : a ≤ e)
    (h : record width cur e = some line) : ∀ x ∈ line, x ≤ e := by
  intro x hx
  rcases record_some h with ⟨-, rfl⟩ | ⟨-, -, rfl⟩
  · exact (hcur x hx).trans ha
  · rcases List.mem_append.1 hx with hx | hx
    · exact (hcur x hx).trans ha
    · exact le_of_eq (List.mem_singleton.1 hx)

/-! ### Reference positions -/

/-- The element after one, or the sentinel, lies right of it. -/
theorem headD_bounds {width e : Int} {rest : List Int} (h : LineOk width (e :: rest)) :
    e < rest.headD width ∧ rest.headD width ≤ width := by
  cases rest with
  | nil => exact ⟨(h.1 e List.mem_cons_self).2, le_refl width⟩
  | cons f rest =>
    exact ⟨(List.pairwise_cons.1 h.2).1 f List.mem_cons_self,
      le_of_lt (h.1 f (List.mem_cons_of_mem e List.mem_cons_self)).2⟩

theorem lineOk_tail {width e : Int} {rest : List Int} (h : LineOk width (e :: rest)) : LineOk width rest :=
  ⟨fun x hx => h.1 x (List.mem_cons_of_mem e hx), (List.pairwise_cons.1 h.2).2⟩

theorem findBFrom_bounds {width a0 : Int} {line : List Int} (color parity : Color) (h : LineOk width line)
    (ha0 : a0 < width) :
    a0 < (findBFrom width a0 color parity line).1 ∧
    (findBFrom width a0 color parity line).1 ≤ (findBFrom width a0 color parity line).2 ∧
    (findBFrom width a0 color parity line).2 ≤ width := by
  induction line generalizing parity with
  | nil => exact ⟨ha0, le_refl width, le_refl width⟩
  | cons e rest ih =>
    unfold findBFrom
    split
    next hc => exact ⟨hc.2, le_of_lt (headD_bounds h).1, (headD_bounds h).2⟩
    next => exact ih (opp parity) (lineOk_tail h)

/-- `a0 < b1 <= b2 <= WIDTH` (42_mode_codes.md R211). -/
theorem findB_bounds {width a0 : Int} {ref : List Int} (color : Color) (h : LineOk width ref) (ha0 : a0 < width) :
    a0 < (findB width ref a0 color).1 ∧ (findB width ref a0 color).1 ≤ (findB width ref a0 color).2 ∧
    (findB width ref a0 color).2 ≤ width :=
  findBFrom_bounds color .white h ha0

/-- `a0 < a1 <= a2 <= WIDTH` (44_encoder.md R292). -/
theorem findA_bounds {width a0 : Int} {line : List Int} (h : LineOk width line) (ha0 : a0 < width) :
    a0 < (findA width a0 line).1 ∧ (findA width a0 line).1 ≤ (findA width a0 line).2 ∧
    (findA width a0 line).2 ≤ width := by
  induction line with
  | nil => exact ⟨ha0, le_refl width, le_refl width⟩
  | cons e rest ih =>
    unfold findA
    split
    next hc => exact ⟨hc, le_of_lt (headD_bounds h).1, (headD_bounds h).2⟩
    next => exact ih (lineOk_tail h)

/-- The choice of mode, with its test (44_encoder.md R293). -/
theorem State.choice_cases (s : State) :
    ((findB s.width s.ref s.a0 s.color).2 < (findA s.width s.a0 s.cur).1 ∧
      s.choice = .pass (findB s.width s.ref s.a0 s.color).2) ∨
    (∃ o, offsetOf ((findA s.width s.a0 s.cur).1 - (findB s.width s.ref s.a0 s.color).1) = some o ∧
      s.choice = .vertical o (findA s.width s.a0 s.cur).1) ∨
    (offsetOf ((findA s.width s.a0 s.cur).1 - (findB s.width s.ref s.a0 s.color).1) = none ∧
      s.choice = .horizontal (findA s.width s.a0 s.cur).1 (findA s.width s.a0 s.cur).2) := by
  unfold State.choice
  dsimp only
  split
  next h => exact .inl ⟨h, rfl⟩
  next =>
    split
    next o ho => exact .inr (.inl ⟨o, ho, rfl⟩)
    next ho => exact .inr (.inr ⟨ho, rfl⟩)

/-- Every choice of the encoder moves `a0` right, at most to `WIDTH` (44_encoder.md R306). -/
theorem choice_target_bounds {s : State} (hs : RowOk s) (ha0 : s.a0 < s.width) :
    s.a0 < s.choice.target ∧ s.choice.target ≤ s.width := by
  obtain ⟨hb1, hb12, hb2⟩ := findB_bounds s.color hs.ref_line ha0
  obtain ⟨ha1, ha12, ha2⟩ := findA_bounds hs.cur_line ha0
  rcases s.choice_cases with ⟨-, heq⟩ | ⟨o, -, heq⟩ | ⟨-, heq⟩ <;> rw [heq]
  · exact ⟨lt_of_lt_of_le hb1 hb12, hb2⟩
  · exact ⟨ha1, ha12.trans ha2⟩
  · exact ⟨lt_of_lt_of_le ha1 ha12, ha2⟩

/-! ### Raster rows -/

/-- A scan lists some of the scanned columns, in their order. -/
theorem scanRow_sublist (row : List Byte) (xs : List Nat) (prev : Bool) :
    (scanRow row xs prev).Sublist (xs.map (fun x : Nat => (x : Int))) := by
  induction xs generalizing prev with
  | nil => exact List.Sublist.slnil
  | cons x xs ih =>
    unfold scanRow
    split
    · exact (ih prev).cons _
    · exact (ih _).cons_cons _

/-- A scanned row is a line (43_rows_and_raster.md R264). -/
theorem toChangingElements_lineOk (row : List Byte) (width : Int) : LineOk width (toChangingElements row width) := by
  have hsub := scanRow_sublist row (List.range width.toNat) false
  constructor
  · intro e he
    obtain ⟨x, hx, rfl⟩ := List.mem_map.1 (hsub.subset he)
    have := List.mem_range.1 hx
    omega
  · exact List.Pairwise.sublist hsub
      (List.pairwise_map.2 (List.pairwise_lt_range.imp (fun h => Int.ofNat_lt.2 h)))

theorem length_paintRun (out : List Byte) (p e : Nat) : (paintRun out p e).length = out.length := by
  unfold paintRun
  induction List.range' p (e - p) generalizing out with
  | nil => rfl
  | cons x xs ih => rw [List.foldl_cons, ih, paintPixel, List.length_modify]

theorem length_assemble (line : List Int) (c : Color) (p : Nat) (out : List Byte) :
    (assemble line c p out).length = out.length := by
  induction line generalizing c p out with
  | nil => rfl
  | cons e rest ih =>
    rw [assemble, ih]
    split
    · exact length_paintRun out p e.toNat
    · rfl

/-- A packed row has `ROWBYTES` bytes (43_rows_and_raster.md R260). -/
theorem length_fromChangingElements (line : List Int) (width : Int) :
    (fromChangingElements line width).length = rowBytes width := by
  rw [fromChangingElements, length_assemble, List.length_replicate]

end Sys2Proof.Machine
end

section
/-!
PROOFS. The registers, lines and raster of a call (10_state.md R31 to R40, 20_memory.md R61, R73).
-/

namespace Sys2Proof.Machine

/-! ### Well-formed calls, by where the call stands -/

theorem RowOk.congr {s t : State} (h : RowOk s) (hwidth : t.width = s.width) (hheight : t.height = s.height)
    (href : t.ref = s.ref) (hcur : t.cur = s.cur) (ha0 : t.a0 = s.a0) (hrow : t.row = s.row) : RowOk t := by
  obtain ⟨h1, h2, h3, h4, h5, h6⟩ := h
  constructor <;> simpa only [hwidth, hheight, href, hcur, ha0, hrow]

theorem InsideOk.congr {s t : State} (h : InsideOk s) (hwidth : t.width = s.width) (ha0 : t.a0 = s.a0)
    (hcur : t.cur = s.cur) (hcolor : t.color = s.color) : InsideOk t := by
  obtain ⟨h1, h2, h3⟩ := h
  constructor <;> simpa only [hwidth, ha0, hcur, hcolor]

/-- Where nothing is recorded yet, the row is well formed at any column left of `WIDTH`. -/
theorem insideOk_of_begun {s : State} (ha0 : s.a0 < s.width) (hcur : s.cur = []) (hcolor : s.color = .white) :
    InsideOk s :=
  ⟨ha0, by simp [hcur], by simp [hcur, hcolor, colorBit]⟩

theorem running_of_insideRow {g : Stage} (h : g.insideRow = true) : g.running = true := by
  revert h
  cases g <;> decide

theorem callOk_of_not_running {s : State} (hrun : s.stage.running = false)
    (hdone : s.stage = .done → (s.row : Int) = s.height) : CallOk s where
  row_ok h := by simp [hrun] at h
  inside_ok h := by simp [running_of_insideRow h] at hrun
  one_d_start h := by simp [h, Stage.running] at hrun
  pass_target h := by simp [h, Stage.running] at hrun
  vert_base h := by simp [h, Stage.running] at hrun
  row_full h := by simp [h, Stage.running] at hrun
  all_rows := hdone
  row_begun h := by simp [hrun] at h

/-- No call has begun at `IDLE`, so nothing is due of one. -/
theorem callOk_of_idle {s : State} (h : s.stage = .idle) : CallOk s :=
  callOk_of_not_running (by rw [h]; rfl) (by simp [h])

theorem callOk_of_failed {s : State} (h : s.stage = .failed) : CallOk s :=
  callOk_of_not_running (by rw [h]; rfl) (by simp [h])

/-- Inside a row. -/
theorem callOk_of_inside {s : State} (hstage : s.stage.insideRow = true) (hrow : RowOk s) (hin : InsideOk s)
    (htag : s.eolSeen = false) (hone : s.stage = .oneD → 0 ≤ s.a0)
    (hpass : s.stage = .pass → s.a0 < s.b2 ∧ s.b2 ≤ s.width)
    (hvert : s.stage = .vert → s.a0 < s.b1 ∧ s.b1 ≤ s.width) : CallOk s where
  row_ok _ := hrow
  inside_ok _ := hin
  one_d_start := hone
  pass_target := hpass
  vert_base := hvert
  row_full h := by simp [h, Stage.insideRow] at hstage
  all_rows h := by simp [h, Stage.insideRow] at hstage
  row_begun _ h := by simp [htag] at h

/-- Between rows, or in the encoder, which keeps its own place in the row. -/
theorem callOk_of_outside {s : State} (hstage : s.stage = .rowStart ∨ s.stage = .busy) (hrow : RowOk s)
    (hbegun : s.eolSeen = true → s.stage = .rowStart ∧ s.a0 = -1 ∧ s.color = .white ∧ s.cur = []) : CallOk s where
  row_ok _ := hrow
  inside_ok h := by rcases hstage with hg | hg <;> simp [hg, Stage.insideRow] at h
  one_d_start h := by simp [h] at hstage
  pass_target h := by simp [h] at hstage
  vert_base h := by simp [h] at hstage
  row_full h := by simp [h] at hstage
  all_rows h := by simp [h] at hstage
  row_begun _ h := hbegun h

theorem callOk_of_rowEnd {s : State} (hstage : s.stage = .rowEnd) (hrow : RowOk s) (hfull : s.a0 = s.width)
    (htag : s.eolSeen = false) : CallOk s where
  row_ok _ := hrow
  inside_ok h := by simp [hstage, Stage.insideRow] at h
  one_d_start h := by simp [hstage] at h
  pass_target h := by simp [hstage] at h
  vert_base h := by simp [hstage] at h
  row_full _ := hfull
  all_rows h := by simp [hstage] at h
  row_begun _ h := by simp [htag] at h

/-- After an action: the row is full and ends, or goes on (42_mode_codes.md R233). -/
theorem callOk_of_nextStage {s : State} (hstage : s.stage = nextStage s.width s.a0) (hrow : RowOk s)
    (hin : s.a0 < s.width → InsideOk s) (htag : s.eolSeen = false) : CallOk s := by
  rcases nextStage_cases s.width s.a0 with ⟨hfull, hnext⟩ | ⟨hmore, hnext⟩ <;> rw [hnext] at hstage
  · exact callOk_of_rowEnd hstage hrow (le_antisymm hrow.a0_high hfull) htag
  · exact callOk_of_inside (by rw [hstage]; rfl) hrow (hin hmore) htag (by simp [hstage]) (by simp [hstage])
      (by simp [hstage])

theorem callOk_of_nextStageOneD {s : State} (hstage : s.stage = nextStageOneD s.width s.a0) (hrow : RowOk s)
    (hin : s.a0 < s.width → InsideOk s) (hone : 0 ≤ s.a0) (htag : s.eolSeen = false) : CallOk s := by
  rcases nextStageOneD_cases s.width s.a0 with ⟨hfull, hnext⟩ | ⟨hmore, hnext⟩ <;> rw [hnext] at hstage
  · exact callOk_of_rowEnd hstage hrow (le_antisymm hrow.a0_high hfull) htag
  · exact callOk_of_inside (by rw [hstage]; rfl) hrow (hin hmore) htag (fun _ => hone) (by simp [hstage])
      (by simp [hstage])

theorem CallOk.rowOk {s : State} {g : Stage} (h : CallOk s) (hg : s.stage = g)
    (hrun : g.running = true := by rfl) : RowOk s :=
  h.row_ok (hg ▸ hrun)

theorem CallOk.insideOk {s : State} {g : Stage} (h : CallOk s) (hg : s.stage = g)
    (hin : g.insideRow = true := by rfl) : InsideOk s :=
  h.inside_ok (hg ▸ hin)

/-- Only a row start waits for its tag bit. -/
theorem CallOk.eolSeen_eq {s : State} {g : Stage} (h : CallOk s) (hg : s.stage = g)
    (hrun : g.running = true := by rfl) (hne : g ≠ .rowStart := by decide) : s.eolSeen = false :=
  Bool.eq_false_iff.2 fun htag => hne (hg ▸ (h.row_begun (hg ▸ hrun) htag).1)

/-! ### The steps of a call -/

/-- A call of legal geometry begins with an empty reference line. -/
theorem freshCall_rowOk {s : State} (h : legalGeometry s.width s.height = true) : RowOk s.freshCall := by
  obtain ⟨hwidth, hheight⟩ : 0 < s.width ∧ 0 < s.height := by simpa [legalGeometry] using h
  exact ⟨hwidth, lineOk_nil _, lineOk_nil _, le_refl _, show (-1 : Int) ≤ s.width by omega, hheight⟩

theorem beginRow_rowOk {s : State} (h : RowOk s) : RowOk s.beginRow :=
  ⟨h.width_pos, h.ref_line, lineOk_nil _, le_refl _, (neg_one_lt_zero.trans h.width_pos).le, h.row_low⟩

theorem beginRow_insideOk {s : State} (h : RowOk s) : InsideOk s.beginRow :=
  insideOk_of_begun (neg_one_lt_zero.trans h.width_pos) rfl rfl

/-- A recorded element right of `a0` is a new last element, and the colour flips with it. -/
theorem insideOk_of_recorded {s t : State} {e : Int} {line : List Int} (hs : InsideOk s)
    (hrec : record s.width s.cur e = some line) (hlow : s.a0 ≤ e) (he : e < s.width) (hwidth : t.width = s.width)
    (ha0 : t.a0 = e) (hcur : t.cur = line) (hcolor : t.color = opp s.color) : InsideOk t where
  not_full := by rw [ha0, hwidth]; exact he
  recorded := by rw [ha0, hcur]; exact record_le hs.recorded hlow hrec
  parity := by
    have hparity := hs.parity
    rw [hcur, record_of_lt hrec he, hcolor, List.length_append, List.length_singleton]
    cases hc : s.color <;> simp only [hc, opp, colorBit] at hparity ⊢ <;> omega

theorem RowOk.of_recorded {s t : State} {e : Int} {line : List Int} (hs : RowOk s)
    (hrec : record s.width s.cur e = some line) (hlow : 0 ≤ e) (hhigh : e ≤ s.width) (hwidth : t.width = s.width)
    (hheight : t.height = s.height) (href : t.ref = s.ref) (hrow : t.row = s.row) (ha0 : t.a0 = e)
    (hcur : t.cur = line) : RowOk t where
  width_pos := hwidth ▸ hs.width_pos
  ref_line := by rw [hwidth, href]; exact hs.ref_line
  cur_line := by rw [hwidth, hcur]; exact record_keeps_lineOk hs.cur_line hlow hhigh hrec
  a0_low := by omega
  a0_high := by rw [ha0, hwidth]; exact hhigh
  row_low := by rw [hrow, hheight]; exact hs.row_low

theorem opp_opp (c : Color) : opp (opp c) = c := by cases c <;> rfl

/-- A Horizontal between its two records: the first element is recorded and the second run has the other colour
(42_mode_codes.md R219). -/
def State.afterFirstRun (s : State) (e1 : Int) (line1 : List Int) : State :=
  { s with a0 := e1, cur := line1, color := opp s.color }

/-- Code words in the middle of a run touch no register of the row. -/
theorem CallOk.withRun {s : State} (hs : CallOk s) (c : Cursor) (n : Nat) (r : Option Nat) :
    CallOk { s with rd := c, tot := n, r1 := r } where
  row_ok h := (hs.row_ok h).congr rfl rfl rfl rfl rfl rfl
  inside_ok h := (hs.inside_ok h).congr rfl rfl rfl rfl
  one_d_start := hs.one_d_start
  pass_target := hs.pass_target
  vert_base := hs.vert_base
  row_full := hs.row_full
  all_rows := hs.all_rows
  row_begun := hs.row_begun

/-- The line that ends becomes the reference line, and the last row ends the call (43_rows_and_raster.md R262). -/
theorem endRow_callOk {s : State} (hrow : RowOk s) (htag : s.eolSeen = false) : CallOk s.endRow := by
  have hlow := hrow.row_low
  by_cases hlast : ((s.row + 1 : Nat) : Int) = s.height
  · have hstage : s.endRow.stage = .done := by rw [State.endRow_stage, if_pos hlast]
    exact callOk_of_not_running (by rw [hstage]; rfl) (fun _ => hlast)
  · have hstage : s.endRow.stage = .rowStart := by rw [State.endRow_stage, if_neg hlast]
    exact callOk_of_outside (.inl hstage)
      ⟨hrow.width_pos, hrow.cur_line, hrow.cur_line, hrow.a0_low, hrow.a0_high,
        show ((s.row + 1 : Nat) : Int) < s.height by omega⟩
      (fun h => by simp [htag] at h)

theorem StepCase.keeps_callOk {s t : State} (h : StepCase s t) (hs : CallOk s) : CallOk t := by
  cases h with
  | startDecompress _ _ hgeo =>
    exact callOk_of_outside (.inl rfl) ((freshCall_rowOk hgeo).congr rfl rfl rfl rfl rfl rfl) (by simp)
  | startCompress _ _ hgeo _ =>
    exact callOk_of_outside (.inr rfl) ((freshCall_rowOk hgeo).congr rfl rfl rfl rfl rfl rfl) (by simp)
  | badGeometry => exact callOk_of_failed rfl
  | command hg => exact callOk_of_idle hg
  | wordRaised => exact callOk_of_failed rfl
  | actionRaised => exact callOk_of_failed rfl
  | rowBegun hg htag =>
    exact callOk_of_inside rfl ((beginRow_rowOk (hs.rowOk hg)).congr rfl rfl rfl rfl rfl rfl)
      ((beginRow_insideOk (hs.rowOk hg)).congr rfl rfl rfl rfl) htag (by simp) (by simp) (by simp)
  | eolRead hg =>
    exact callOk_of_outside (.inl hg) ((beginRow_rowOk (hs.rowOk hg)).congr rfl rfl rfl rfl rfl rfl)
      (fun _ => ⟨hg, rfl, rfl, rfl⟩)
  | tag0Read hg htag =>
    obtain ⟨-, ha0, hcolor, hcur⟩ := hs.row_begun (by rw [hg]; rfl) htag
    have hrow := hs.rowOk hg
    exact callOk_of_inside rfl (hrow.congr rfl rfl rfl rfl rfl rfl)
      (insideOk_of_begun (ha0.trans_lt (neg_one_lt_zero.trans hrow.width_pos)) hcur hcolor) rfl (by simp) (by simp)
      (by simp)
  | tag1Read hg htag =>
    obtain ⟨-, -, hcolor, hcur⟩ := hs.row_begun (by rw [hg]; rfl) htag
    have hrow := hs.rowOk hg
    exact callOk_of_inside rfl
      ⟨hrow.width_pos, hrow.ref_line, hrow.cur_line, neg_one_lt_zero.le, hrow.width_pos.le, hrow.row_low⟩
      (insideOk_of_begun hrow.width_pos hcur hcolor) rfl (fun _ => le_refl 0) (by simp) (by simp)
  | horizLatched hg =>
    exact callOk_of_inside rfl ((hs.rowOk hg).congr rfl rfl rfl rfl rfl rfl)
      ((hs.insideOk hg).congr rfl rfl rfl rfl) (hs.eolSeen_eq hg) (by simp) (by simp) (by simp)
  | passLatched hg =>
    have hrow := hs.rowOk hg
    have hin := hs.insideOk hg
    obtain ⟨hb1, hb12, hb2⟩ := findB_bounds s.color hrow.ref_line hin.not_full
    exact callOk_of_inside rfl (hrow.congr rfl rfl rfl rfl rfl rfl) (hin.congr rfl rfl rfl rfl) (hs.eolSeen_eq hg)
      (by simp) (fun _ => ⟨lt_of_lt_of_le hb1 hb12, hb2⟩) (by simp)
  | vertLatched hg =>
    have hrow := hs.rowOk hg
    have hin := hs.insideOk hg
    obtain ⟨hb1, hb12, hb2⟩ := findB_bounds s.color hrow.ref_line hin.not_full
    exact callOk_of_inside rfl (hrow.congr rfl rfl rfl rfl rfl rfl) (hin.congr rfl rfl rfl rfl) (hs.eolSeen_eq hg)
      (by simp) (by simp) (fun _ => ⟨hb1, hb12.trans hb2⟩)
  | passDone hg hlow =>
    have hrow := hs.rowOk hg
    have hin := hs.insideOk hg
    exact callOk_of_nextStage rfl
      ⟨hrow.width_pos, hrow.ref_line, hrow.cur_line, hrow.a0_low.trans hlow.le, (hs.pass_target hg).2, hrow.row_low⟩
      (fun hmore => ⟨hmore, fun e he => (hin.recorded e he).trans hlow.le, hin.parity⟩) (hs.eolSeen_eq hg)
  | vertDone hg _ hrec hlow hhigh =>
    have hrow := hs.rowOk hg
    have ha0 := hrow.a0_low
    exact callOk_of_nextStage rfl (hrow.of_recorded hrec (by omega) hhigh rfl rfl rfl rfl rfl rfl)
      (fun hmore => insideOk_of_recorded (hs.insideOk hg) hrec hlow.le hmore rfl rfl rfl rfl) (hs.eolSeen_eq hg)
  | runGrown => exact hs.withRun _ _ _
  | firstRunEnded => exact hs.withRun _ _ _
  | @horizDone c n m line1 line2 e1 e2 hg _ _ he1 he2 hrec1 hrec2 hlow hhigh =>
    have hstart : s.a0 ≤ startColumn s.a0 ∧ 0 ≤ startColumn s.a0 := ⟨le_max_left _ _, le_max_right _ _⟩
    have he12 : e1 ≤ e2 := by omega
    have hrow1 := (hs.rowOk hg).of_recorded (t := s.afterFirstRun e1 line1) hrec1 (by omega) (by omega) rfl rfl rfl rfl
      rfl rfl
    have hin1 (h : e1 < s.width) := insideOk_of_recorded (t := s.afterFirstRun e1 line1) (hs.insideOk hg) hrec1
      (by omega) h rfl rfl rfl rfl
    exact callOk_of_nextStage rfl (hrow1.of_recorded hrec2 (by omega) hhigh rfl rfl rfl rfl rfl rfl)
      (fun hmore => insideOk_of_recorded (hin1 (lt_of_le_of_lt he12 hmore)) hrec2 he12 hmore rfl rfl rfl
        (opp_opp s.color).symm) (hs.eolSeen_eq hg)
  | @oneDDone c n e line hg _ he hrec hhigh =>
    have hone := hs.one_d_start hg
    have hnew : 0 ≤ e := by omega
    exact callOk_of_nextStageOneD rfl ((hs.rowOk hg).of_recorded hrec hnew hhigh rfl rfl rfl rfl rfl rfl)
      (fun hmore => insideOk_of_recorded (hs.insideOk hg) hrec (by omega) hmore rfl rfl rfl rfl)
      hnew (hs.eolSeen_eq hg)
  | rowEnded hg => exact endRow_callOk (hs.rowOk hg) (hs.eolSeen_eq hg)
  | rowLoaded hg =>
    have hrow := hs.rowOk hg
    exact callOk_of_outside (.inr hg)
      ⟨hrow.width_pos, hrow.ref_line, toChangingElements_lineOk _ _, le_refl _,
        (neg_one_lt_zero.trans hrow.width_pos).le, hrow.row_low⟩
      (fun h => by simp [hs.eolSeen_eq hg] at h)
  | choiceEncoded hg _ hlow =>
    have hrow := hs.rowOk hg
    obtain ⟨hleft, hright⟩ := choice_target_bounds hrow hlow
    rw [State.encodeStep_eq]
    exact callOk_of_outside (.inr hg)
      ⟨hrow.width_pos, hrow.ref_line, hrow.cur_line, hrow.a0_low.trans hleft.le, hright, hrow.row_low⟩
      (fun h => by simp [hs.eolSeen_eq hg] at h)
  | rowEncoded hg _ _ _ hmore =>
    have hrow := hs.rowOk hg
    have hlow := hrow.row_low
    exact callOk_of_outside (.inr hg)
      ⟨hrow.width_pos, hrow.cur_line, hrow.cur_line, hrow.a0_low, hrow.a0_high,
        show ((s.row + 1 : Nat) : Int) < s.height by omega⟩
      (fun h => by simp [hs.eolSeen_eq hg] at h)
  | lastRowEncoded _ _ _ _ hlast => exact callOk_of_not_running rfl (fun _ => hlast)

/-! ### The raster -/

theorem rasOk_of_idle {s : State} (h : s.stage = .idle) : RasOk s := by
  constructor <;> simp [h, Stage.running]

theorem rasOk_of_failed {s : State} (h : s.stage = .failed) : RasOk s := by
  constructor <;> simp [h, Stage.running]

/-- No raster is due of `compress`. -/
theorem rasOk_of_compress {s : State} (h : s.call = .compress) : RasOk s where
  busy_call _ := h
  rows_held hcall := by simp [h] at hcall
  last_row hcall := by simp [h] at hcall

/-- A step inside a row leaves the rows produced so far as they are. -/
theorem RasOk.of_running {s t : State} {g g' : Stage} (hs : RasOk s) (hg : s.stage = g) (hg' : t.stage = g')
    (hbusy : g' ≠ .busy) (hrun : g.running = true) (hcall : t.call = s.call) (hras : t.ras = s.ras)
    (hrow : t.row = s.row) (hwidth : t.width = s.width) (href : t.ref = s.ref) : RasOk t where
  busy_call h := absurd (hg'.symm.trans h) hbusy
  rows_held h _ := by
    rw [hras, hrow, hwidth]
    exact hs.rows_held (hcall ▸ h) (.inl (hg ▸ hrun))
  last_row h _ h0 := by
    rw [hras, hrow, hwidth, href]
    exact hs.last_row (hcall ▸ h) (.inl (hg ▸ hrun)) (hrow ▸ h0)

/-- A row end appends the packed line to the rows produced so far (43_rows_and_raster.md R262). -/
theorem endRow_rasOk {s : State} (hs : RasOk s) (hg : s.stage = .rowEnd) : RasOk s.endRow where
  busy_call h := by
    rw [State.endRow_stage] at h
    split at h <;> cases h
  rows_held hcall _ := by
    have hheld := hs.rows_held hcall (.inl (by rw [hg]; rfl))
    have hnew := Memory.holdsExactly_writeBytes hheld (fromChangingElements s.cur s.width)
    rw [length_fromChangingElements, ← Nat.succ_mul] at hnew
    exact hnew
  last_row _ _ _ := by
    have hread := Memory.readBytes_writeBytes s.ras (s.row * rowBytes s.width) (fromChangingElements s.cur s.width)
    rw [length_fromChangingElements] at hread
    exact hread

theorem StepCase.keeps_rasOk {s t : State} (h : StepCase s t) (hs : RasOk s) : RasOk t := by
  cases h with
  | startDecompress =>
    exact ⟨by simp, fun _ _ => by simp [Memory.holdsExactly], fun _ _ h0 => absurd h0 (lt_irrefl 0)⟩
  | startCompress _ hcall => exact rasOk_of_compress hcall
  | badGeometry => exact rasOk_of_failed rfl
  | command hg => exact rasOk_of_idle hg
  | wordRaised => exact rasOk_of_failed rfl
  | actionRaised => exact rasOk_of_failed rfl
  | rowBegun hg => exact hs.of_running hg rfl (by simp) rfl rfl rfl rfl rfl rfl
  | eolRead hg => exact hs.of_running hg hg (by simp) rfl rfl rfl rfl rfl rfl
  | tag0Read hg => exact hs.of_running hg rfl (by simp) rfl rfl rfl rfl rfl rfl
  | tag1Read hg => exact hs.of_running hg rfl (by simp) rfl rfl rfl rfl rfl rfl
  | horizLatched hg => exact hs.of_running hg rfl (by simp) rfl rfl rfl rfl rfl rfl
  | passLatched hg => exact hs.of_running hg rfl (by simp) rfl rfl rfl rfl rfl rfl
  | vertLatched hg => exact hs.of_running hg rfl (by simp) rfl rfl rfl rfl rfl rfl
  | passDone hg => exact hs.of_running hg rfl (nextStage_ne (by simp) (by simp)) rfl rfl rfl rfl rfl rfl
  | vertDone hg => exact hs.of_running hg rfl (nextStage_ne (by simp) (by simp)) rfl rfl rfl rfl rfl rfl
  | runGrown hg =>
    rcases hg with hg | hg
    · exact hs.of_running hg hg (by simp) rfl rfl rfl rfl rfl rfl
    · exact hs.of_running hg hg (by simp) rfl rfl rfl rfl rfl rfl
  | firstRunEnded hg => exact hs.of_running hg hg (by simp) rfl rfl rfl rfl rfl rfl
  | horizDone hg => exact hs.of_running hg rfl (nextStage_ne (by simp) (by simp)) rfl rfl rfl rfl rfl rfl
  | oneDDone hg => exact hs.of_running hg rfl (nextStageOneD_ne (by simp) (by simp)) rfl rfl rfl rfl rfl rfl
  | rowEnded hg => exact endRow_rasOk hs hg
  | rowLoaded hg => exact rasOk_of_compress (hs.busy_call hg)
  | choiceEncoded hg => rw [State.encodeStep_eq]; exact rasOk_of_compress (hs.busy_call hg)
  | rowEncoded hg => exact rasOk_of_compress (hs.busy_call hg)
  | lastRowEncoded hg => exact rasOk_of_compress (hs.busy_call hg)

/-- A finished `decompress` call holds all its rows. -/
theorem ras_of_done {s : State} (hcallOk : CallOk s) (hras : RasOk s) (hcall : s.call = .decompress)
    (hdone : s.stage = .done) : s.ras.map Prod.fst = List.range (s.height.toNat * rowBytes s.width) := by
  have hrows : s.height.toNat = s.row := by rw [← hcallOk.all_rows hdone, Int.toNat_natCast]
  rw [hrows]
  exact Memory.holdsExactly_iff.1 (hras.rows_held hcall (.inr hdone))

/-- Settles O50, case by case over what a step can do. -/
theorem callInvariantKept : Obligations.CallInvariantKept := by
  intro s t hstep
  have hcase := stepCase_of_step hstep
  exact ⟨hcase.keeps_callOk, hcase.keeps_rasOk, fun hcallOk hras =>
    ras_of_done (hcase.keeps_callOk hcallOk) (hcase.keeps_rasOk hras)⟩

end Sys2Proof.Machine
end

section
/-!
PROOFS. The values after reset, and the invariants there (10_state.md R45).
-/

namespace Sys2Proof.Machine

theorem Memory.read_ofBytes {bs : List Byte} {a : Nat} (h : a < bs.length) : (Memory.ofBytes bs).read a = bs[a]? := by
  rw [Memory.ofBytes, ← Memory.read_writeBytes_inside [] 0 bs h, Nat.zero_add]

/-- Settles O41: each of the three set-ups is reset with the host's data in it. -/
theorem resetValues : Obligations.ResetValues := by
  refine ⟨?registers, ?decompress, ?compress, ?session⟩
  case registers =>
    rintro s (rfl | ⟨src, w, h, f, m, rfl⟩ | ⟨raster, w, h, f, rfl⟩ | ⟨src, o, cmds, rfl⟩) <;>
      exact ⟨rfl, rfl, rfl, rfl, rfl, rfl, rfl, rfl, rfl, rfl, rfl, rfl, rfl, rfl⟩
  case decompress =>
    exact fun src w h f m => ⟨rfl, rfl, rfl, rfl, rfl, fun a ha => Memory.read_ofBytes ha⟩
  case compress => exact fun raster w h f => ⟨rfl, rfl, rfl, fun a ha => Memory.read_ofBytes ha⟩
  case session => exact fun src o cmds => ⟨rfl, rfl, rfl⟩

/-- Settles O51: at reset every store is empty and no call has begun. -/
theorem invariantsHoldAtReset : Obligations.InvariantsHoldAtReset :=
  ⟨cursorOk_fresh .le rfl, writerOk_fresh .le, ⟨Memory.wf_nil, Memory.wf_nil, Memory.wf_nil⟩,
    statusOk_of_none (by decide) rfl, tempOk_of_cleared rfl rfl rfl rfl, callOk_of_idle rfl, rasOk_of_idle rfl,
    fun _ ha => absurd ha (Nat.not_lt_zero _)⟩

end Sys2Proof.Machine
end

section
/-!
PROOFS. The value of a sub-byte read, bit by bit, against the stream (20_memory.md R64, 40_bitcursor.md R144).
-/

namespace Sys2Proof.Machine

/-! ### The bits of a field -/

theorem topField_eq_mod (cache : Byte) (rem n : Nat) :
    topField cache rem n = (cache.toNat >>> (rem - n)) % 2 ^ n := by
  rw [topField, lowMask, Nat.one_shiftLeft, Nat.and_two_pow_sub_one_eq_mod]

theorem topField_lt (cache : Byte) (rem n : Nat) : topField cache rem n < 2 ^ n := by
  rw [topField_eq_mod]
  exact Nat.mod_lt _ (Nat.two_pow_pos n)

/-- The unread bits of the cache start at position `8 - rem` of the byte, counted from its most significant bit. -/
theorem testBit_topField {rem n j : Nat} (cache : Byte) (hn : n ≤ rem) (hrem : rem ≤ 8) (hj : j < n) :
    (topField cache rem n).testBit (n - 1 - j) = byteBit cache (8 - rem + j) := by
  have hpos : rem - n + (n - 1 - j) = 7 - (8 - rem + j) := by omega
  rw [topField_eq_mod, Nat.testBit_mod_two_pow, decide_eq_true (show n - 1 - j < n by omega), Bool.true_and,
    Nat.testBit_shiftRight, hpos, byteBit, BitVec.testBit_toNat]

/-- The byte at address `a` holds the stream bits from `8 * a` on (20_memory.md R64). -/
theorem streamBit_of_read {src : Memory} {a j : Nat} {b : Byte} (h : src.read a = some b) (hj : j < 8) :
    streamBit src (8 * a + j) = byteBit b j := by
  have hdiv : (8 * a + j) / 8 = a := by omega
  have hmod : (8 * a + j) % 8 = j := by omega
  rw [streamBit, hdiv, hmod, h, Option.getD_some]

/-! ### The field that a sub-byte read takes -/

theorem Cursor.readBits_of_subByte (c : Cursor) (src : Memory) (srcLen : Nat) {n : Int} (h1 : 1 ≤ n) (h7 : n ≤ 7) :
    c.readBits src srcLen n = c.subByteRead src srcLen n.toNat := by
  have hlegal : legalWidth n = true := legalWidth_iff.2 (.inl ⟨h1, by omega⟩)
  rw [Cursor.readBits, if_neg (by simp [hlegal]), if_pos (by omega)]

/-- Cached or just pulled, the field lies in one source byte and starts at the bit position (10_state.md R22,
40_bitcursor.md R143, R144). -/
theorem subByteRead_field {s : State} {c : Cursor} {n v : Nat} (hs : CursorOk s)
    (h : s.rd.subByteRead s.src s.srcLen n = .value v c) :
    ∃ a b rem, s.src.read a = some b ∧ n ≤ rem ∧ rem ≤ 8 ∧ s.rd.bitPos = 8 * a + (8 - rem) ∧
      v = topField b rem n := by
  unfold Cursor.bitPos
  rcases Cursor.subByteRead_value h with ⟨hpending, hn, hv, -⟩ | ⟨hempty, -, b, hread, hn, hv, -⟩
  · obtain ⟨hpulled, hcache⟩ := hs.cached (Nat.pos_of_ne_zero hpending)
    have hsmall := hs.rem_small
    exact ⟨s.rd.bytesRead - 1, s.rd.cache, s.rd.rem, hcache, hn, by omega, by omega, hv⟩
  · exact ⟨s.rd.bytesRead, b, 8, hread, hn, Nat.le_refl 8, by omega, hv⟩

/-- Settles O12, from the source byte in which the field lies. -/
theorem subByteValueIsStreamBits : Obligations.SubByteValueIsStreamBits := by
  intro s n v c hs h1 h7 h
  rw [Cursor.readBits_of_subByte _ _ _ h1 h7] at h
  obtain ⟨a, b, rem, hread, hn, hrem, hpos, rfl⟩ := subByteRead_field hs h
  refine ⟨topField_lt b rem n.toNat, fun j hj => ?_⟩
  rw [testBit_topField b hn hrem hj, hpos, Nat.add_assoc, streamBit_of_read hread (by omega)]

end Sys2Proof.Machine
end

section
/-!
PROOFS. The rows of the code tables of 30_encoding.md. With the strings that it rejects, the table of a context is
a complete code: every long enough bit string begins with exactly one of them. That is unique decoding and the gap
of the table in one fact (30_encoding.md R113).
-/

namespace Sys2Proof

/-! ### The rows of a context -/

/-- The rows of a class of code words (30_encoding.md R100). -/
def rowsOf : WordClass → List Instr
  | .mode => modeWords
  | .whiteTerm => whiteTermWords
  | .whiteMakeup => whiteMakeupWords
  | .blackTerm => blackTermWords
  | .blackMakeup => blackMakeupWords
  | .extMakeup => extMakeupWords
  | .eol => [.eol]
  | .tag => [.tag0, .tag1]
  | .command => []

/-- The classes whose rows make up the table of a context (30_encoding.md R101). -/
def Context.classes : Context → List WordClass
  | .mode => [.mode]
  | .run .white => [.whiteTerm, .whiteMakeup, .extMakeup]
  | .run .black => [.blackTerm, .blackMakeup, .extMakeup]
  | .eol => [.eol]
  | .tag => [.tag]

theorem format_of_mem_rowsOf {f : WordClass} : ∀ i ∈ rowsOf f, i.format = f := by
  cases f <;> decide

/-- The listed rows leave out no code word. -/
theorem command_or_mem_rowsOf (i : Instr) : (i.format == .command || (rowsOf i.format).contains i) = true := by
  cases i <;> rfl

theorem mem_rowsOf_iff {f : WordClass} (hf : f ≠ .command) {i : Instr} : i ∈ rowsOf f ↔ i.format = f := by
  constructor
  · exact format_of_mem_rowsOf i
  · rintro rfl
    simpa [hf] using command_or_mem_rowsOf i

theorem tableOf_eq_flatMap (ctx : Context) : tableOf ctx = ctx.classes.flatMap rowsOf := by
  rcases ctx with _ | (_ | _) | _ | _ <;> rfl

theorem Context.accepts_iff {ctx : Context} {f : WordClass} : ctx.accepts f = true ↔ f ∈ ctx.classes := by
  rcases ctx with _ | (_ | _) | _ | _ <;> cases f <;> decide

theorem Context.command_notMem_classes (ctx : Context) : WordClass.command ∉ ctx.classes := by
  rcases ctx with _ | (_ | _) | _ | _ <;> decide

/-- The well-formed words of a context are the rows of its table. -/
theorem mem_tableOf_iff {ctx : Context} {i : Instr} : i ∈ tableOf ctx ↔ wellFormed ctx i = true := by
  rw [tableOf_eq_flatMap, List.mem_flatMap, wellFormed, Context.accepts_iff]
  have hcode : ∀ f ∈ ctx.classes, f ≠ .command := fun f hf h => ctx.command_notMem_classes (h ▸ hf)
  constructor
  · rintro ⟨f, hf, hi⟩
    rwa [(mem_rowsOf_iff (hcode f hf)).1 hi]
  · exact fun hf => ⟨i.format, hf, (mem_rowsOf_iff (hcode _ hf)).2 rfl⟩

theorem length_encode_of_mem {ctx : Context} :
    ∀ i ∈ tableOf ctx, minLen ctx ≤ (encode i).length ∧ (encode i).length ≤ maxLen ctx := by
  rcases ctx with _ | (_ | _) | _ | _ <;> decide

theorem minLen_pos (ctx : Context) : 0 < minLen ctx := by
  rcases ctx with _ | (_ | _) | _ | _ <;> decide

/-! ### Complete codes -/

/-- What is left of the words that begin with the bit `b`. -/
def wordsAfter (b : Bool) (ws : List Bits) : List Bits :=
  ws.filterMap fun w => if w.head? = some b then some w.tail else none

/-- Following the words bit by bit, at most `n` bits deep, every path ends at exactly one word. -/
def completeCode : Nat → List Bits → Bool
  | 0, ws => ws == [[]]
  | n + 1, ws => ws == [[]] ||
      (ws.all (· != []) && completeCode n (wordsAfter false ws) && completeCode n (wordsAfter true ws))

theorem isPrefixOf_cons_of_ne_nil {w : Bits} (hw : w ≠ []) (b : Bool) (bits : Bits) :
    w.isPrefixOf (b :: bits) = (w.head? == some b && w.tail.isPrefixOf bits) := by
  cases w with
  | nil => exact absurd rfl hw
  | cons c w => rfl

/-- The words that begin a string are, after its first bit, those that begin the rest of it. -/
theorem countP_wordsAfter {ws : List Bits} (hne : ∀ w ∈ ws, w ≠ []) (b : Bool) (bits : Bits) :
    (wordsAfter b ws).countP (·.isPrefixOf bits) = ws.countP (·.isPrefixOf (b :: bits)) := by
  rw [wordsAfter, List.countP_filterMap]
  refine List.countP_congr fun w hw => ?_
  rw [isPrefixOf_cons_of_ne_nil (hne w hw)]
  by_cases hhead : w.head? = some b <;> simp [hhead]

theorem countP_prefix_of_completeCode {n : Nat} {ws : List Bits} (h : completeCode n ws = true) {bits : Bits}
    (hlen : n ≤ bits.length) : ws.countP (·.isPrefixOf bits) = 1 := by
  induction n generalizing ws bits with
  | zero => rw [show ws = [[]] by simpa [completeCode] using h]; rfl
  | succ n ih =>
    obtain ⟨b, bits, rfl⟩ := List.exists_cons_of_length_pos (Nat.zero_lt_of_lt hlen)
    simp only [completeCode, Bool.or_eq_true, Bool.and_eq_true, beq_iff_eq, List.all_eq_true, bne_iff_ne] at h
    rcases h with rfl | ⟨⟨hne, hfalse⟩, htrue⟩
    · rfl
    · rw [← countP_wordsAfter hne]
      cases b with
      | false => exact ih hfalse (Nat.le_of_succ_le_succ hlen)
      | true => exact ih htrue (Nat.le_of_succ_le_succ hlen)

theorem eq_of_countP_le_one {α : Type} {p : α → Bool} {l : List α} (h : l.countP p ≤ 1) {a b : α} (ha : a ∈ l)
    (hb : b ∈ l) (hpa : p a = true) (hpb : p b = true) : a = b := by
  rw [List.countP_eq_length_filter] at h
  have ha := List.mem_filter.2 ⟨ha, hpa⟩
  have hb := List.mem_filter.2 ⟨hb, hpb⟩
  match hfilter : l.filter p with
  | [] => simp [hfilter] at ha
  | [c] =>
    rw [hfilter, List.mem_singleton] at ha hb
    exact ha.trans hb.symm
  | c :: d :: rest => simp [hfilter] at h

/-! ### The tables -/

/-- The shortest bit strings that no row of a context begins and that begin no row: six 0 bits for a mode code,
eight for a run code (30_encoding.md R113 (c), (e)), any departure from the marker for `EOL`. -/
def rejected : Context → List Bits
  | .mode => [List.replicate 6 false]
  | .run _ => [List.replicate 8 false]
  | .eol => List.replicate 12 false :: (List.range 11).map fun k => List.replicate k false ++ [true]
  | .tag => []

theorem completeCode_table (ctx : Context) :
    completeCode (maxLen ctx) (rejected ctx ++ (tableOf ctx).map encode) = true := by
  rcases ctx with _ | (_ | _) | _ | _ <;> decide

/-- A long enough string begins with one rejected string or one row, never both. -/
theorem countP_rejected_add_rows {ctx : Context} {bits : Bits} (h : maxLen ctx ≤ bits.length) :
    (rejected ctx).countP (·.isPrefixOf bits) + (tableOf ctx).countP (fun i => (encode i).isPrefixOf bits) = 1 := by
  have hone := countP_prefix_of_completeCode (completeCode_table ctx) h
  rwa [List.countP_append, List.countP_map] at hone

/-- No row of a table begins another (30_encoding.md R113 (a)). -/
theorem tableOf_prefixFree {ctx : Context} {i j : Instr} (hi : i ∈ tableOf ctx) (hj : j ∈ tableOf ctx)
    (h : encode i <+: encode j) : i = j := by
  have hone := countP_rejected_add_rows (ctx := ctx) (bits := encode j ++ List.replicate (maxLen ctx) false)
    (by simp)
  refine eq_of_countP_le_one (Nat.le.intro ((Nat.add_comm _ _).trans hone)) hi hj ?_ ?_
  · exact List.isPrefixOf_iff_prefix.2 (h.trans (List.prefix_append _ _))
  · exact List.isPrefixOf_iff_prefix.2 (List.prefix_append _ _)

/-- A row begins a long enough string exactly where no rejected string does. -/
theorem row_prefix_iff {ctx : Context} {bits : Bits} (h : maxLen ctx ≤ bits.length) :
    (∃ i ∈ tableOf ctx, encode i <+: bits) ↔ ¬ ∃ w ∈ rejected ctx, w <+: bits := by
  simp only [← List.isPrefixOf_iff_prefix, ← List.countP_pos_iff]
  have hone := countP_rejected_add_rows h
  omega

end Sys2Proof
end

section
/-!
PROOFS. Decoding a bit string: the decoder finds the row that begins it, and what each of its answers says about
the string (30_encoding.md R102, R113).
-/

namespace Sys2Proof

/-! ### Matching a row -/

theorem matchRow_some {ctx : Context} {code : Bits} {i : Instr} (h : matchRow ctx code = some i) :
    i ∈ tableOf ctx ∧ encode i = code := by
  unfold matchRow at h
  split at h
  next => cases h
  next => exact ⟨List.mem_of_find?_eq_some h, by simpa using List.find?_some h⟩

theorem matchRow_encode {ctx : Context} {i : Instr} (hi : i ∈ tableOf ctx) : matchRow ctx (encode i) = some i := by
  rw [matchRow, if_neg (Nat.not_lt.2 (length_encode_of_mem i hi).1)]
  cases hfind : (tableOf ctx).find? (fun j => encode j == encode i) with
  | none => simpa using List.find?_eq_none.1 hfind i hi
  | some j =>
    have hsame : encode j = encode i := by simpa using List.find?_some hfind
    rw [tableOf_prefixFree (List.mem_of_find?_eq_some hfind) hi (hsame ▸ List.prefix_rfl)]

/-- Inside a code word no row matches yet. -/
theorem matchRow_of_proper_prefix {ctx : Context} {i : Instr} (hi : i ∈ tableOf ctx) {code : Bits}
    (hcode : code <+: encode i) (hlen : code.length < (encode i).length) : matchRow ctx code = none := by
  refine Option.eq_none_iff_forall_ne_some.2 fun j hj => ?_
  obtain ⟨hmem, rfl⟩ := matchRow_some hj
  rw [tableOf_prefixFree hmem hi hcode] at hlen
  exact Nat.lt_irrefl _ hlen

/-! ### One bit of the decoder -/

theorem decodeLoop_of_match {σ : Type} {next : σ → NextBit σ} {ctx : Context} {n : Nat} {code : Bits} {s s' : σ}
    {b : Bool} {i : Instr} (hnext : next s = .bit b s') (hmatch : matchRow ctx (code ++ [b]) = some i) :
    decodeLoop next ctx (n + 1) code s = .word i s' := by
  simp only [decodeLoop, hnext, hmatch]

theorem decodeLoop_of_no_match {σ : Type} {next : σ → NextBit σ} {ctx : Context} {n : Nat} {code : Bits} {s s' : σ}
    {b : Bool} (hnext : next s = .bit b s') (hmatch : matchRow ctx (code ++ [b]) = none) :
    decodeLoop next ctx (n + 1) code s = decodeLoop next ctx n (code ++ [b]) s' := by
  simp only [decodeLoop, hnext, hmatch]

theorem decodeLoop_of_end {σ : Type} {next : σ → NextBit σ} {ctx : Context} {n : Nat} {code : Bits} {s : σ}
    (hnext : next s = .endOfStream) : decodeLoop next ctx (n + 1) code s = .truncated s := by
  simp only [decodeLoop, hnext]

theorem nextOfBits_cons (b : Bool) (bits : Bits) : nextOfBits (b :: bits) = .bit b bits := rfl

/-! ### Decoding finds the row -/

/-- Wherever inside a row the decoder stands, it reads on to the row's end. -/
theorem decodeLoop_of_row {ctx : Context} {i : Instr} (hi : i ∈ tableOf ctx) {rest : Bits} {n : Nat}
    {code bits : Bits} (hbits : code ++ bits = encode i ++ rest) (hinside : code.length < (encode i).length)
    (hfuel : (encode i).length ≤ code.length + n) : decodeLoop nextOfBits ctx n code bits = .word i rest := by
  induction n generalizing code bits with
  | zero => omega
  | succ n ih =>
    cases bits with
    | nil =>
      have hlen := congrArg List.length hbits
      simp at hlen
      omega
    | cons b bits =>
      have hbits : (code ++ [b]) ++ bits = encode i ++ rest := by simpa using hbits
      have hlen : (code ++ [b]).length = code.length + 1 := by simp
      have hcode : code ++ [b] <+: encode i :=
        List.prefix_of_prefix_length_le ⟨bits, hbits⟩ ⟨rest, rfl⟩ (by omega)
      by_cases hend : (code ++ [b]).length = (encode i).length
      · have hword := hcode.eq_of_length hend
        rw [hword] at hbits
        rw [← List.append_cancel_left hbits]
        exact decodeLoop_of_match (nextOfBits_cons b bits) (hword ▸ matchRow_encode hi)
      · rw [decodeLoop_of_no_match (nextOfBits_cons b bits) (matchRow_of_proper_prefix hi hcode (by omega))]
        exact ih hbits (by omega) (by omega)

/-- A string that begins with a row decodes to it. -/
theorem decode_encode_append {ctx : Context} {i : Instr} (hi : i ∈ tableOf ctx) (rest : Bits) :
    decode ctx (encode i ++ rest) = .word i rest := by
  have hlen := length_encode_of_mem i hi
  have hpos := minLen_pos ctx
  exact decodeLoop_of_row hi rfl (show 0 < _ by omega) (show _ ≤ 0 + _ by omega)

/-- Settles O1: the row that begins the string is the one that is found. -/
theorem decodeInvertsEncode : Obligations.DecodeInvertsEncode := fun _ _ rest h =>
  decode_encode_append (mem_tableOf_iff.2 h) rest

/-- Settles O3: the words written out are what the encoder gives, so O1 reads them back. -/
theorem sampleWordsDecode : Obligations.SampleWordsDecode :=
  ⟨decodeInvertsEncode .mode .v0 [] rfl, decodeInvertsEncode .mode .vl1 [] rfl, decodeInvertsEncode .mode .p [] rfl,
    decodeInvertsEncode (.run .white) .wt0 [] rfl, decodeInvertsEncode (.run .white) .wm64 [] rfl,
    decodeInvertsEncode (.run .black) .bt2 [] rfl, decodeInvertsEncode (.run .black) .bm64 [] rfl,
    decodeInvertsEncode (.run .black) .xm1792 [] rfl, decodeInvertsEncode (.run .white) .xm1792 [] rfl,
    decodeInvertsEncode .eol .eol [] rfl, decodeInvertsEncode .tag .tag1 [] rfl⟩

/-! ### What an answer of the decoder says -/

/-- What the answer of the decoder says of a string, of which `code` has been read and at most `n` more bits may
be. -/
def DecodeSays (ctx : Context) (n : Nat) (code bits : Bits) : Decoded Bits → Prop
  | .word i rest => i ∈ tableOf ctx ∧ code ++ bits = encode i ++ rest
  | .noRow rest => n ≤ bits.length ∧ rest = bits.drop n
  | .truncated rest => bits.length < n ∧ rest = []
  | .absent => False

theorem decodeSays_of_bit {ctx : Context} {n : Nat} {code bits : Bits} {b : Bool} {d : Decoded Bits}
    (h : DecodeSays ctx n (code ++ [b]) bits d) : DecodeSays ctx (n + 1) code (b :: bits) d := by
  cases d with
  | word i rest => simpa [DecodeSays] using h
  | noRow rest => simpa [DecodeSays] using h
  | truncated rest => simpa [DecodeSays] using h
  | absent => exact h

theorem decodeLoop_says (ctx : Context) (n : Nat) (code bits : Bits) :
    DecodeSays ctx n code bits (decodeLoop nextOfBits ctx n code bits) := by
  induction n generalizing code bits with
  | zero => exact ⟨Nat.zero_le _, rfl⟩
  | succ n ih =>
    cases bits with
    | nil => exact ⟨Nat.zero_lt_succ n, rfl⟩
    | cons b bits =>
      cases hmatch : matchRow ctx (code ++ [b]) with
      | some i =>
        obtain ⟨hi, hcode⟩ := matchRow_some hmatch
        rw [decodeLoop_of_match (nextOfBits_cons b bits) hmatch]
        exact ⟨hi, by simp [hcode]⟩
      | none =>
        rw [decodeLoop_of_no_match (nextOfBits_cons b bits) hmatch]
        exact decodeSays_of_bit (ih (code ++ [b]) bits)

theorem decode_says (ctx : Context) (bits : Bits) : DecodeSays ctx (maxLen ctx) [] bits (decode ctx bits) :=
  decodeLoop_says ctx (maxLen ctx) [] bits

theorem decode_word {ctx : Context} {bits rest : Bits} {i : Instr} (h : decode ctx bits = .word i rest) :
    i ∈ tableOf ctx ∧ bits = encode i ++ rest := by
  simpa [DecodeSays, h] using decode_says ctx bits

theorem decode_noRow {ctx : Context} {bits rest : Bits} (h : decode ctx bits = .noRow rest) :
    maxLen ctx ≤ bits.length ∧ rest = bits.drop (maxLen ctx) := by
  simpa [DecodeSays, h] using decode_says ctx bits

theorem decode_truncated {ctx : Context} {bits rest : Bits} (h : decode ctx bits = .truncated rest) :
    bits.length < maxLen ctx ∧ rest = [] := by
  simpa [DecodeSays, h] using decode_says ctx bits

theorem decode_ne_absent (ctx : Context) (bits : Bits) : decode ctx bits ≠ .absent := fun h => by
  simpa [DecodeSays, h] using decode_says ctx bits

/-- A string that no row begins decodes to no word: no row if it is long enough, else a truncated word. -/
theorem decode_of_no_row {ctx : Context} {bits : Bits} (h : ∀ i ∈ tableOf ctx, ¬ encode i <+: bits) :
    decode ctx bits = if maxLen ctx ≤ bits.length then .noRow (bits.drop (maxLen ctx)) else .truncated [] := by
  cases hdecode : decode ctx bits with
  | word i rest =>
    obtain ⟨hi, rfl⟩ := decode_word hdecode
    exact absurd (List.prefix_append _ _) (h i hi)
  | noRow rest =>
    obtain ⟨hlen, rfl⟩ := decode_noRow hdecode
    rw [if_pos hlen]
  | truncated rest =>
    obtain ⟨hlen, rfl⟩ := decode_truncated hdecode
    rw [if_neg (by omega)]
  | absent => exact absurd hdecode (decode_ne_absent ctx bits)

/-- Settles O2: of a word, the decoder's answer says that it is a row and begins the string. -/
theorem decodedWordIsEncoded : Obligations.DecodedWordIsEncoded := fun _ _ _ _ h =>
  ⟨mem_tableOf_iff.1 (decode_word h).1, (decode_word h).2⟩

/-- A long enough string that begins with a rejected string decodes to no row. -/
theorem decode_of_rejected {ctx : Context} {bits : Bits} (hlen : maxLen ctx ≤ bits.length)
    (h : ∃ w ∈ rejected ctx, w <+: bits) : decode ctx bits = .noRow (bits.drop (maxLen ctx)) := by
  have hrows : ∀ i ∈ tableOf ctx, ¬ encode i <+: bits := fun i hi hpre =>
    (row_prefix_iff hlen).1 ⟨i, hi, hpre⟩ h
  rw [decode_of_no_row hrows, if_pos hlen]

/-- A long enough string fails to decode exactly when it begins with a rejected string. -/
theorem decode_noRow_iff {ctx : Context} {bits : Bits} (hlen : maxLen ctx ≤ bits.length) :
    (∃ rest, decode ctx bits = .noRow rest) ↔ ∃ w ∈ rejected ctx, w <+: bits := by
  constructor
  · rintro ⟨rest, hnone⟩
    by_contra hrej
    obtain ⟨i, hi, tail, rfl⟩ := (row_prefix_iff hlen).2 hrej
    rw [decode_encode_append hi] at hnone
    cases hnone
  · exact fun h => ⟨_, decode_of_rejected hlen h⟩

theorem replicate_prefix_iff {n : Nat} {bits : Bits} :
    List.replicate n false <+: bits ↔ bits.take n = List.replicate n false := by
  rw [List.prefix_iff_eq_take, List.length_replicate, eq_comm]

theorem rejected_mode_iff {bits : Bits} :
    (∃ w ∈ rejected .mode, w <+: bits) ↔ bits.take 6 = List.replicate 6 false := by
  simp only [rejected, List.mem_singleton, exists_eq_left, replicate_prefix_iff]

theorem rejected_run_iff {c : Color} {bits : Bits} :
    (∃ w ∈ rejected (.run c), w <+: bits) ↔ bits.take 8 = List.replicate 8 false := by
  simp only [rejected, List.mem_singleton, exists_eq_left, replicate_prefix_iff]

/-- Settles O4: the zero strings are what the tables reject. -/
theorem undecodableWordsByZeroBits : Obligations.UndecodableWordsByZeroBits :=
  ⟨fun _ hlen => (decode_noRow_iff (ctx := .mode) hlen).trans rejected_mode_iff,
    fun c _ hlen => (decode_noRow_iff (ctx := .run c) hlen).trans rejected_run_iff⟩

end Sys2Proof
end

section
/-!
PROOFS. Reading a code word through the cursor: each bit read follows the stream, so the decoder does on the
machine what it does on the upcoming bits (40_bitcursor.md R150, 20_memory.md R64).
-/

namespace Sys2Proof.Machine

/-! ### The upcoming bits -/

theorem length_upcoming (s : State) : s.upcoming.length = 8 * s.srcLen - s.rd.bitPos := by
  simp [State.upcoming]

theorem bitPos_add_length_upcoming {s : State} (hs : CursorOk s) :
    s.rd.bitPos + s.upcoming.length = 8 * s.srcLen := by
  have hbytes := hs.in_source
  rw [length_upcoming, Cursor.bitPos]
  omega

/-- Before the end of the source the upcoming bits begin with the bit at the position. -/
theorem upcoming_of_lt {s : State} (h : s.rd.bitPos < 8 * s.srcLen) {c : Cursor} (hc : c.bitPos = s.rd.bitPos + 1) :
    s.upcoming = streamBit s.src s.rd.bitPos :: ({ s with rd := c } : State).upcoming := by
  have hleft : 8 * s.srcLen - s.rd.bitPos = 8 * s.srcLen - c.bitPos + 1 := by omega
  rw [State.upcoming, hleft, List.range'_succ, List.map_cons, ← hc]
  rfl

/-! ### The bit read -/

/-- One bit can be taken from the cache or from the next byte of a loaded source. -/
theorem subByteRead_one_of_lt {s : State} (hsrc : SrcLoaded s) (h : s.rd.bitPos < 8 * s.srcLen) :
    ∃ v c, s.rd.subByteRead s.src s.srcLen 1 = .value v c := by
  unfold Cursor.bitPos at h
  unfold Cursor.subByteRead Cursor.takeField
  by_cases hempty : s.rd.rem = 0
  · obtain ⟨b, hb⟩ := Option.isSome_iff_exists.1 (hsrc s.rd.bytesRead (by omega))
    have hmore : ¬ s.srcLen ≤ s.rd.bytesRead := by omega
    simp [hempty, hmore, hb]
  · have hpending : ¬ s.rd.rem < 1 := by omega
    simp [hempty, hpending]

/-- The bit read gives the stream bit at the bit position. -/
theorem nextBit_of_lt {s : State} (hs : CursorOk s) (hsrc : SrcLoaded s) (h : s.rd.bitPos < 8 * s.srcLen) :
    ∃ c : Cursor, s.nextBit = .bit (streamBit s.src s.rd.bitPos) { s with rd := c } ∧
      c.bitPos = s.rd.bitPos + 1 ∧ CursorOk { s with rd := c } := by
  obtain ⟨v, c, hread⟩ := subByteRead_one_of_lt hsrc h
  have hread : s.rd.readBits s.src s.srcLen 1 = .value v c := (Cursor.readBits_one ..).trans hread
  obtain ⟨hsmall, hbits⟩ := subByteValueIsStreamBits s 1 v c hs (by decide) (by decide) hread
  have hbit : (v == 1) = streamBit s.src s.rd.bitPos := by
    have hv : v < 2 := hsmall
    have hlow : v.testBit 0 = streamBit s.src s.rd.bitPos := hbits 0 Nat.one_pos
    rw [← hlow, Nat.testBit_zero, Nat.mod_eq_of_lt hv]
    rfl
  refine ⟨c, ?_, readBits_bitPos hs hread, readBits_keeps_cursorOk hs hread⟩
  rw [State.nextBit, hread, ← hbit]

theorem nextBit_of_upcoming_nil {s : State} (hs : CursorOk s) (h : s.upcoming = []) : s.nextBit = .endOfStream := by
  have hpos := bitPos_add_length_upcoming hs
  have hbytes := hs.in_source
  have hpulled := fun hpending => (hs.cached hpending).1
  rw [h, List.length_nil, Cursor.bitPos] at hpos
  have hempty : s.rd.rem = 0 := by omega
  have hend : s.srcLen ≤ s.rd.bytesRead := by omega
  simp [State.nextBit, Cursor.readBits_one, Cursor.subByteRead, hempty, hend]

theorem nextBit_of_upcoming_cons {s : State} (hs : CursorOk s) (hsrc : SrcLoaded s) {b : Bool} {bits : Bits}
    (h : s.upcoming = b :: bits) :
    ∃ c : Cursor, s.nextBit = .bit b { s with rd := c } ∧ CursorOk { s with rd := c } ∧
      ({ s with rd := c } : State).upcoming = bits := by
  have hlt : s.rd.bitPos < 8 * s.srcLen := by
    have hpos := bitPos_add_length_upcoming hs
    rw [h, List.length_cons] at hpos
    omega
  obtain ⟨c, hnext, hpos, hok⟩ := nextBit_of_lt hs hsrc hlt
  rw [upcoming_of_lt hlt hpos, List.cons.injEq] at h
  exact ⟨c, h.1 ▸ hnext, hok, h.2⟩

/-! ### The decoder on two sources -/

/-- Two readings of a code word came out alike, with related sources after them. -/
inductive SameReading {σ τ : Type} (R : σ → τ → Prop) : Decoded σ → Decoded τ → Prop
  | word (i : Instr) {s : σ} {u : τ} (h : R s u) : SameReading R (.word i s) (.word i u)
  | noRow {s : σ} {u : τ} (h : R s u) : SameReading R (.noRow s) (.noRow u)
  | truncated {s : σ} {u : τ} (h : R s u) : SameReading R (.truncated s) (.truncated u)

/-- Two bit sources give the same bit and stay related, or both end. -/
def SameNext {σ τ : Type} (R : σ → τ → Prop) (a : NextBit σ) (b : NextBit τ) : Prop :=
  (a = .endOfStream ∧ b = .endOfStream) ∨ ∃ bit s u, a = .bit bit s ∧ b = .bit bit u ∧ R s u

theorem decodeLoop_sameReading {σ τ : Type} {R : σ → τ → Prop} {next : σ → NextBit σ} {next' : τ → NextBit τ}
    (hnext : ∀ s u, R s u → SameNext R (next s) (next' u)) (ctx : Context) (n : Nat) (code : Bits) {s : σ} {u : τ}
    (h : R s u) : SameReading R (decodeLoop next ctx n code s) (decodeLoop next' ctx n code u) := by
  induction n generalizing code s u with
  | zero => exact .noRow h
  | succ n ih =>
    rcases hnext s u h with ⟨hs, hu⟩ | ⟨b, s', u', hs, hu, h'⟩
    · rw [decodeLoop_of_end hs, decodeLoop_of_end hu]
      exact .truncated h
    · cases hmatch : matchRow ctx (code ++ [b]) with
      | some i =>
        rw [decodeLoop_of_match hs hmatch, decodeLoop_of_match hu hmatch]
        exact .word i h'
      | none =>
        rw [decodeLoop_of_no_match hs hmatch, decodeLoop_of_no_match hu hmatch]
        exact ih (code ++ [b]) h'

theorem SameReading.of_word {σ τ : Type} {R : σ → τ → Prop} {d : Decoded σ} {i : Instr} {u : τ}
    (h : SameReading R d (.word i u)) : ∃ s, d = .word i s ∧ R s u := by
  cases h with
  | word i h => exact ⟨_, rfl, h⟩

theorem SameReading.of_noRow {σ τ : Type} {R : σ → τ → Prop} {d : Decoded σ} {u : τ}
    (h : SameReading R d (.noRow u)) : ∃ s, d = .noRow s ∧ R s u := by
  cases h with
  | noRow h => exact ⟨_, rfl, h⟩

theorem SameReading.of_truncated {σ τ : Type} {R : σ → τ → Prop} {d : Decoded σ} {u : τ}
    (h : SameReading R d (.truncated u)) : ∃ s, d = .truncated s ∧ R s u := by
  cases h with
  | truncated h => exact ⟨_, rfl, h⟩

/-! ### The cursor against its upcoming bits -/

/-- `s'` is `s` with its cursor where `bits` are the upcoming bits. -/
def State.ReadsUpTo (s s' : State) (bits : Bits) : Prop :=
  ∃ c : Cursor, s' = { s with rd := c } ∧ CursorOk { s with rd := c } ∧ ({ s with rd := c } : State).upcoming = bits

theorem sameNext_of_readsUpTo {s : State} (hsrc : SrcLoaded s) (s' : State) (bits : Bits) (h : s.ReadsUpTo s' bits) :
    SameNext s.ReadsUpTo s'.nextBit (nextOfBits bits) := by
  obtain ⟨c, rfl, hok, hup⟩ := h
  cases bits with
  | nil => exact .inl ⟨nextBit_of_upcoming_nil hok hup, rfl⟩
  | cons b bits =>
    obtain ⟨d, hnext, hok', hup'⟩ := nextBit_of_upcoming_cons hok hsrc hup
    exact .inr ⟨b, _, bits, hnext, rfl, d, rfl, hok', hup'⟩

theorem decodeWith_nextBit_sameReading (ctx : Context) {s : State} (hs : CursorOk s) (hsrc : SrcLoaded s) :
    SameReading s.ReadsUpTo (decodeWith State.nextBit ctx s) (decode ctx s.upcoming) :=
  decodeLoop_sameReading (sameNext_of_readsUpTo hsrc) ctx (maxLen ctx) [] ⟨s.rd, rfl, hs, rfl⟩

/-- The bits between two positions are what has gone from the upcoming bits. -/
theorem bitPos_of_upcoming {s : State} {c : Cursor} (hs : CursorOk s) (hc : CursorOk { s with rd := c }) {k : Nat}
    (h : s.upcoming.length = k + ({ s with rd := c } : State).upcoming.length) : c.bitPos = s.rd.bitPos + k := by
  have hbefore := bitPos_add_length_upcoming hs
  have hafter : c.bitPos + _ = 8 * s.srcLen := bitPos_add_length_upcoming hc
  omega

/-- Settles O6: the two readings agree, and the decoder's answer says how many bits are gone. -/
theorem fetchReadsUpcomingWord : Obligations.FetchReadsUpcomingWord := by
  intro ctx s hs hsrc
  have hsame := decodeWith_nextBit_sameReading ctx hs hsrc
  cases hdecode : decode ctx s.upcoming with
  | word i rest =>
    obtain ⟨_, hread, c, rfl, hok, hup⟩ := SameReading.of_word (hdecode ▸ hsame)
    refine ⟨c, hread, hok, hup, bitPos_of_upcoming hs hok ?_⟩
    rw [hup, (decode_word hdecode).2, List.length_append]
  | noRow rest =>
    obtain ⟨_, hread, c, rfl, hok, hup⟩ := SameReading.of_noRow (hdecode ▸ hsame)
    refine ⟨c, hread, hok, hup, bitPos_of_upcoming hs hok ?_⟩
    obtain ⟨hlen, rfl⟩ := decode_noRow hdecode
    rw [hup, List.length_drop]
    omega
  | truncated rest =>
    obtain ⟨_, hread, c, rfl, hok, hup⟩ := SameReading.of_truncated (hdecode ▸ hsame)
    obtain rfl := (decode_truncated hdecode).2
    have hend := bitPos_add_length_upcoming hok
    rw [hup] at hend
    exact ⟨rfl, c, hread, hok, hend⟩
  | absent => exact absurd hdecode (decode_ne_absent ctx _)

end Sys2Proof.Machine
end

section
/-!
PROOFS. A step that reads a code word: it runs the word, and it fails the call where there is none
(30_encoding.md R101, R116, R117, 60_exceptions.md R325).
-/

namespace Sys2Proof.Machine

/-! ### A step by what its reading answers -/

theorem step_of_word {s s' : State} {ctx : Context} {i : Instr} (hctx : s.context = some ctx)
    (h : decodeWith State.nextBit ctx s.beforeWord = .word i s') : step s = exec i s' := by
  simp only [step, fetch_of_context hctx, fetchWord, h]

theorem step_of_noRow {s s' : State} {ctx : Context} (hctx : s.context = some ctx)
    (h : decodeWith State.nextBit ctx s.beforeWord = .noRow s') : step s = .next (s'.raiseNoRow ctx) := by
  simp only [step, fetch_of_context hctx, fetchWord, h]

theorem step_of_truncated {s s' : State} {ctx : Context} (hctx : s.context = some ctx)
    (h : decodeWith State.nextBit ctx s.beforeWord = .truncated s') :
    step s = .next (s'.raiseData .truncated) := by
  simp only [step, fetch_of_context hctx, fetchWord, h]

theorem step_of_pass {s : State} (h : s.stage = .pass) : step s = exec .p s := by
  simp only [step, fetch, h]

theorem step_of_vert {s : State} (h : s.stage = .vert) : step s = exec (offsetInstr s.k) s := by
  simp only [step, fetch, h]

theorem step_of_command {s : State} {c : Command} {rest : List Command} {i : Instr} (hstage : s.stage = .idle)
    (hcall : s.call = .standalone) (hcmds : s.cmds = c :: rest) (hi : c.instr = some i) :
    step s = exec i { s with cmds := rest } := by
  simp only [step, fetch, hstage, fetchIdle, hcall, fetchCommand, hcmds, hi]

/-- Settles O7, one kind of step at a time. -/
theorem stepRunsFetchedInstruction : Obligations.StepRunsFetchedInstruction :=
  ⟨fun _ _ _ _ => step_of_word, fun _ => step_of_pass, fun _ => step_of_vert, fun _ _ _ _ => step_of_command⟩

/-! ### A word that cannot be read -/

@[simp] theorem State.raiseNoRow_stage (s : State) (ctx : Context) : (s.raiseNoRow ctx).stage = .failed := by
  cases ctx <;> rfl

@[simp] theorem State.raiseNoRow_rd (s : State) (ctx : Context) : (s.raiseNoRow ctx).rd = s.rd := by
  cases ctx <;> rfl

theorem State.raiseNoRow_err (s : State) {ctx : Context} (h : ctx ≠ .eol) :
    (s.raiseNoRow ctx).err = .decompressionError := by
  cases ctx with
  | eol => exact absurd rfl h
  | mode => rfl
  | run c => rfl
  | tag => rfl

/-- A word that begins with a rejected string, with enough bits left, fails the call after the longest length
(42_mode_codes.md R213, 41_run_codes.md R181, 43_rows_and_raster.md R252). -/
theorem step_of_rejected {s : State} {ctx : Context} (hctx : s.context = some ctx) (hs : CursorOk s.beforeWord)
    (hsrc : SrcLoaded s.beforeWord) (hlen : maxLen ctx ≤ s.beforeWord.upcoming.length)
    (hrej : ∃ w ∈ rejected ctx, w <+: s.beforeWord.upcoming) :
    ∃ c : Cursor, step s = .next (({ s.beforeWord with rd := c } : State).raiseNoRow ctx) ∧
      c.bitPos = s.beforeWord.rd.bitPos + maxLen ctx := by
  have hfetch := fetchReadsUpcomingWord ctx s.beforeWord hs hsrc
  rw [decode_of_rejected hlen hrej] at hfetch
  obtain ⟨c, hread, -, -, hpos⟩ := hfetch
  exact ⟨c, step_of_noRow hctx hread, hpos⟩

/-- A word that the source cuts short fails the call (40_bitcursor.md R150). -/
theorem step_of_cut_short {s : State} {ctx : Context} (hctx : s.context = some ctx) (hs : CursorOk s.beforeWord)
    (hsrc : SrcLoaded s.beforeWord) (hlen : s.beforeWord.upcoming.length < maxLen ctx)
    (hrows : ∀ i ∈ tableOf ctx, ¬ encode i <+: s.beforeWord.upcoming) :
    ∃ c : Cursor, step s = .next (({ s.beforeWord with rd := c } : State).raiseData .truncated) := by
  have hfetch := fetchReadsUpcomingWord ctx s.beforeWord hs hsrc
  rw [decode_of_no_row hrows, if_neg (by omega)] at hfetch
  obtain ⟨-, c, hread, -⟩ := hfetch
  exact ⟨c, step_of_truncated hctx hread⟩

/-- Inside a row, where nothing is done before a word is read, a word that cannot be read is a
`DecompressionError` (60_exceptions.md R325). -/
theorem unreadable_word_raises {s : State} {ctx : Context} (hctx : s.context = some ctx) (heol : ctx ≠ .eol)
    (hbefore : s.beforeWord = s) (hs : CursorOk s) (hsrc : SrcLoaded s) :
    (maxLen ctx ≤ s.upcoming.length → (∃ w ∈ rejected ctx, w <+: s.upcoming) →
      ∃ t, step s = .next t ∧ t.stage = .failed ∧ t.err = .decompressionError ∧
        t.rd.bitPos = s.rd.bitPos + maxLen ctx) ∧
    (s.upcoming.length < maxLen ctx → (∀ i ∈ tableOf ctx, ¬ encode i <+: s.upcoming) →
      ∃ t, step s = .next t ∧ t.stage = .failed ∧ t.err = .decompressionError) := by
  rw [← hbefore] at hs hsrc
  constructor
  · intro hlen hrej
    rw [← hbefore] at hlen hrej
    obtain ⟨c, hstep, hpos⟩ := step_of_rejected hctx hs hsrc hlen hrej
    exact ⟨_, hstep, State.raiseNoRow_stage _ _, State.raiseNoRow_err _ heol, by simpa [hbefore] using hpos⟩
  · intro hlen hrows
    rw [← hbefore] at hlen hrows
    obtain ⟨c, hstep⟩ := step_of_cut_short hctx hs hsrc hlen hrows
    exact ⟨_, hstep, rfl, rfl⟩

/-- Settles O8: the mode table rejects six 0 bits. -/
theorem illegalModeWordRaises : Obligations.IllegalModeWordRaises := by
  intro s hstage hs hsrc
  have hctx : s.context = some .mode := by simp [State.context, hstage]
  have hbefore : s.beforeWord = s := beforeWord_of_stage (by simp [hstage])
  obtain ⟨hrejected, hcut⟩ := unreadable_word_raises hctx (by simp) hbefore hs hsrc
  exact ⟨fun hlen hzeros => hrejected hlen (rejected_mode_iff.2 hzeros), hcut⟩

/-- A run is read in `HORIZ` and in `ONE_D`. -/
theorem stage_of_runColor {s : State} {c : Color} (h : s.runColor = some c) : s.stage = .horiz ∨ s.stage = .oneD := by
  unfold State.runColor at h
  split at h
  next hstage => exact .inl hstage
  next hstage => exact .inr hstage
  next => cases h

theorem context_of_runColor {s : State} {c : Color} (h : s.runColor = some c) : s.context = some (.run c) := by
  rcases stage_of_runColor h with hstage | hstage <;> simp [State.context, hstage, h]

/-- Settles O9: the run tables reject eight 0 bits. -/
theorem illegalRunWordRaises : Obligations.IllegalRunWordRaises := by
  intro s c hcolor hs hsrc
  have hbefore : s.beforeWord = s := beforeWord_of_run (stage_of_runColor hcolor)
  obtain ⟨hrejected, hcut⟩ := unreadable_word_raises (context_of_runColor hcolor) (by simp) hbefore hs hsrc
  exact ⟨fun hlen hzeros => hrejected hlen (rejected_run_iff.2 hzeros), hcut⟩

end Sys2Proof.Machine
end

section
/-!
PROOFS. The commands of a standalone cursor: what each form of `READBITS` answers where it succeeds and where it
fails, and `FLUSH` and `BYTESREAD` (40_bitcursor.md R141 to R150).
-/

namespace Sys2Proof.Machine

/-- Only a command of a legal width is an instruction (40_bitcursor.md R142, R152). -/
theorem Command.wellFormed_of_instr {c : Command} {i : Instr} (h : c.instr = some i) : c.wellFormed = true := by
  unfold Command.instr at h
  split at h <;> cases h <;> rfl

theorem subByte_width {n : Int} (hlegal : legalWidth n = true) (h8 : n < 8) : 1 ≤ n ∧ n ≤ 7 := by
  have hwidth := legalWidth_iff.1 hlegal
  omega

/-! ### The answer of a read command -/

theorem readCommand_of_value {s : State} {n : Int} {v : Nat} {c : Cursor} (hstage : s.stage = .idle)
    (h : s.rd.readBits s.src s.srcLen n = .value v c) :
    readCommand n s = .next { s with rd := c, resp := .value v } := by
  rw [readCommand, if_pos hstage, h]
  rfl

theorem readCommand_of_error {s : State} {n : Int} {k : ErrKind} (hstage : s.stage = .idle)
    (h : s.rd.readBits s.src s.srcLen n = .error k) : readCommand n s = .next { s with resp := .error k } := by
  rw [readCommand, if_pos hstage, h]
  rfl

/-! ### Sub-byte reads -/

theorem Cursor.takeField_of_le {c : Cursor} {n : Nat} (h : n ≤ c.rem) :
    c.takeField n = .value (topField c.cache c.rem n) { c with rem := c.rem - n } := by
  rw [Cursor.takeField, if_neg (by omega)]

section SubByte
variable {c : Cursor} {src : Memory} {srcLen n : Nat}

theorem Cursor.subByteRead_of_pending (hpending : 0 < c.rem) (hn : n ≤ c.rem) :
    c.subByteRead src srcLen n = .value (topField c.cache c.rem n) { c with rem := c.rem - n } := by
  rw [Cursor.subByteRead, if_neg (by omega), Cursor.takeField_of_le hn]

theorem Cursor.subByteRead_of_pull (hempty : c.rem = 0) (hmore : c.bytesRead < srcLen) {b : Byte}
    (hread : src.read c.bytesRead = some b) (hn : n ≤ 8) :
    c.subByteRead src srcLen n =
      .value (topField b 8 n) { c with cache := b, bytesRead := c.bytesRead + 1, rem := 8 - n } := by
  rw [Cursor.subByteRead, if_pos hempty, if_neg (by omega), hread]
  exact Cursor.takeField_of_le hn

theorem Cursor.subByteRead_crossing (hpending : 0 < c.rem) (hn : c.rem < n) :
    c.subByteRead src srcLen n = .error .crossByteBoundary := by
  rw [Cursor.subByteRead, if_neg (by omega), Cursor.takeField, if_pos hn]

theorem Cursor.subByteRead_at_end (hempty : c.rem = 0) (hend : srcLen ≤ c.bytesRead) :
    c.subByteRead src srcLen n = .error .endOfStream := by
  rw [Cursor.subByteRead, if_pos hempty, if_pos hend]

end SubByte

theorem topField_eq_div_mod (cache : Byte) (rem n : Nat) :
    topField cache rem n = cache.toNat / 2 ^ (rem - n) % 2 ^ n := by
  rw [topField_eq_mod, Nat.shiftRight_eq_div_pow]

/-- The top bits of a whole byte need no mask. -/
theorem topField_of_byte (b : Byte) {n : Nat} (hn : n ≤ 8) : topField b 8 n = b.toNat / 2 ^ (8 - n) := by
  have hsplit : 2 ^ (8 - n) * 2 ^ n = 2 ^ 8 := by rw [← Nat.pow_add, Nat.sub_add_cancel hn]
  have hlt : b.toNat / 2 ^ (8 - n) < 2 ^ n := Nat.div_lt_of_lt_mul (hsplit ▸ b.isLt)
  rw [topField_eq_div_mod, Nat.mod_eq_of_lt hlt]

/-- Settles O11, by what is in the cache and what is left of the source. -/
theorem readSubByte : Obligations.ReadSubByte := by
  intro s n i hinstr h8 hstage
  obtain ⟨h1, h7⟩ := subByte_width (Command.wellFormed_of_instr hinstr) h8
  have hn : 1 ≤ n.toNat ∧ n.toNat ≤ 7 := by omega
  have hread := Cursor.readBits_of_subByte s.rd s.src s.srcLen h1 h7
  simp only [exec_command hinstr, commandMeaning]
  refine ⟨fun hfits => ?pending, fun hempty hmore b hb => ?pull, fun hpending hcross => ?crossing,
    fun hempty hend => ?atEnd⟩
  case pending =>
    rw [← topField_eq_div_mod]
    exact readCommand_of_value hstage (hread.trans (Cursor.subByteRead_of_pending (by omega) hfits))
  case pull =>
    rw [← topField_of_byte b (by omega)]
    exact readCommand_of_value hstage (hread.trans (Cursor.subByteRead_of_pull hempty hmore hb (by omega)))
  case crossing => exact readCommand_of_error hstage (hread.trans (Cursor.subByteRead_crossing hpending hcross))
  case atEnd => exact readCommand_of_error hstage (hread.trans (Cursor.subByteRead_at_end hempty hend))

/-! ### Reads of whole bytes -/

section WholeBytes
variable {c : Cursor} {src : Memory} {srcLen : Nat}

theorem Cursor.byteRead_of_read (hempty : c.rem = 0) (hmore : c.bytesRead < srcLen) {b : Byte}
    (hread : src.read c.bytesRead = some b) :
    c.byteRead src srcLen = .value b.toNat { c with bytesRead := c.bytesRead + 1 } := by
  rw [Cursor.byteRead, if_neg (not_not.2 hempty), if_neg (by omega), hread]

theorem Cursor.byteRead_of_pending (h : c.rem ≠ 0) : c.byteRead src srcLen = .error .incompleteBitRead := by
  rw [Cursor.byteRead, if_pos h]

theorem Cursor.byteRead_at_end (hempty : c.rem = 0) (hend : srcLen ≤ c.bytesRead) :
    c.byteRead src srcLen = .error .endOfStream := by
  rw [Cursor.byteRead, if_neg (not_not.2 hempty), if_pos hend]

theorem Cursor.multiByteRead_of_read {m : Nat} (hempty : c.rem = 0) (hmore : c.bytesRead + m ≤ srcLen)
    {bs : List Byte} (hread : src.readBytes c.bytesRead m = some bs) :
    c.multiByteRead src srcLen m = .value (orderedValue c.order bs) { c with bytesRead := c.bytesRead + m } := by
  rw [Cursor.multiByteRead, if_neg (not_not.2 hempty), if_neg (by omega), hread]

theorem Cursor.multiByteRead_of_pending {m : Nat} (h : c.rem ≠ 0) :
    c.multiByteRead src srcLen m = .error .incompleteBitRead := by
  rw [Cursor.multiByteRead, if_pos h]

theorem Cursor.multiByteRead_at_end {m : Nat} (hempty : c.rem = 0) (hend : srcLen < c.bytesRead + m) :
    c.multiByteRead src srcLen m = .error .endOfStream := by
  rw [Cursor.multiByteRead, if_neg (not_not.2 hempty), if_pos hend]

end WholeBytes

theorem exec_readBits8 (s : State) : exec .readBits8 s = readCommand 8 s := rfl

theorem Cursor.readBits_eight (c : Cursor) (src : Memory) (srcLen : Nat) :
    c.readBits src srcLen 8 = c.byteRead src srcLen := rfl

/-- Settles O13, by whether bits are pending and a byte is left. -/
theorem readByte : Obligations.ReadByte := by
  intro s hstage
  have hread := Cursor.readBits_eight s.rd s.src s.srcLen
  simp only [exec_readBits8]
  exact ⟨fun hempty hmore _ hb => readCommand_of_value hstage (hread.trans (Cursor.byteRead_of_read hempty hmore hb)),
    fun hpending => readCommand_of_error hstage (hread.trans (Cursor.byteRead_of_pending hpending)),
    fun hempty hend => readCommand_of_error hstage (hread.trans (Cursor.byteRead_at_end hempty hend))⟩

/-! ### The value of several bytes (20_memory.md R66) -/

theorem leValue_append (xs ys : List Byte) : leValue (xs ++ ys) = leValue xs + 256 ^ xs.length * leValue ys := by
  induction xs with
  | nil => simp [leValue]
  | cons b xs ih =>
    rw [List.cons_append, leValue, leValue, ih, List.length_cons, Nat.pow_succ']
    ring

theorem leValue_lt (bs : List Byte) : leValue bs < 256 ^ bs.length := by
  induction bs with
  | nil => exact Nat.one_pos
  | cons b bs ih =>
    have hb : b.toNat < 256 := b.isLt
    rw [leValue, List.length_cons, Nat.pow_succ']
    omega

theorem orderedValue_lt (o : ByteOrder) (bs : List Byte) : orderedValue o bs < 256 ^ bs.length := by
  cases o with
  | le => exact leValue_lt bs
  | be => exact List.length_reverse (as := bs) ▸ leValue_lt bs.reverse

theorem leValue_map_range (B : Nat → Byte) (m : Nat) :
    leValue ((List.range m).map B) = ((List.range m).map fun j => (B j).toNat * 256 ^ j).sum := by
  induction m with
  | zero => rfl
  | succ m ih =>
    rw [List.range_succ, List.map_append, leValue_append, ih]
    simp [leValue, Nat.mul_comm]

/-- One more byte, read last, is the least significant one: it raises the weight of every byte before it. -/
theorem beValue_map_range (B : Nat → Byte) (m : Nat) :
    beValue ((List.range m).map B) = ((List.range m).map fun j => (B j).toNat * 256 ^ (m - 1 - j)).sum := by
  induction m with
  | zero => rfl
  | succ m ih =>
    have hweights : ((List.range m).map fun j => (B j).toNat * 256 ^ (m + 1 - 1 - j)).sum =
        256 * ((List.range m).map fun j => (B j).toNat * 256 ^ (m - 1 - j)).sum := by
      rw [← List.sum_map_mul_left]
      refine congrArg List.sum (List.map_congr_left fun j hj => ?_)
      have hexp : m + 1 - 1 - j = m - 1 - j + 1 := by
        have hj := List.mem_range.1 hj
        omega
      rw [hexp, Nat.pow_succ]
      ring
    rw [List.range_succ, List.map_append, List.map_append, List.sum_append, hweights, ← ih]
    simp [beValue, leValue, Nat.add_comm]

theorem Memory.readBytes_of_read {m : Memory} {a n : Nat} {B : Nat → Byte}
    (h : ∀ j, j < n → m.read (a + j) = some (B j)) : m.readBytes a n = some ((List.range n).map B) := by
  induction n generalizing a B with
  | zero => rfl
  | succ n ih =>
    have hrest : m.readBytes (a + 1) n = some ((List.range n).map fun j => B (j + 1)) :=
      ih fun j hj => by rw [← h (j + 1) (by omega), Nat.add_assoc, Nat.add_comm 1 j]
    rw [Memory.readBytes, show m.read a = some (B 0) from h 0 (by omega), hrest, List.range_succ_eq_map]
    simp [Function.comp_def]

/-- The three widths that span several bytes are one operation on their number (40_bitcursor.md R145). -/
theorem multiByte_command {m : Nat} {i : Instr} (s : State)
    (h : m = 2 ∧ i = .readBits16 ∨ m = 3 ∧ i = .readBits24 ∨ m = 4 ∧ i = .readBits32) :
    ∃ n : Int, exec i s = readCommand n s ∧
      s.rd.readBits s.src s.srcLen n = s.rd.multiByteRead s.src s.srcLen m := by
  rcases h with ⟨rfl, rfl⟩ | ⟨rfl, rfl⟩ | ⟨rfl, rfl⟩
  · exact ⟨16, rfl, rfl⟩
  · exact ⟨24, rfl, rfl⟩
  · exact ⟨32, rfl, rfl⟩

/-- Settles O14: the bytes that are there are the bytes read, and the byte order weighs them. -/
theorem readMultiByte : Obligations.ReadMultiByte := by
  intro s m i hi hstage
  obtain ⟨n, hexec, hread⟩ := multiByte_command s hi
  rw [hexec]
  refine ⟨fun hempty hmore B hB => ?value, fun hpending => ?pending, fun hempty hend => ?atEnd⟩
  case value =>
    rw [readCommand_of_value hstage
      (hread.trans (Cursor.multiByteRead_of_read hempty hmore (Memory.readBytes_of_read hB)))]
    cases horder : s.rd.order with
    | le => simp only [horder, orderedValue, leValue_map_range]
    | be => simp only [horder, orderedValue, beValue_map_range]
  case pending => exact readCommand_of_error hstage (hread.trans (Cursor.multiByteRead_of_pending hpending))
  case atEnd => exact readCommand_of_error hstage (hread.trans (Cursor.multiByteRead_at_end hempty hend))

/-! ### The width of a result -/

/-- A sub-byte read is masked to its width; a read of `m` bytes is below `256 ^ m`. -/
theorem Cursor.readBits_value_lt {c c' : Cursor} {src : Memory} {srcLen v : Nat} {n : Int}
    (h : c.readBits src srcLen n = .value v c') : legalWidth n = true ∧ v < 2 ^ n.toNat := by
  unfold Cursor.readBits at h
  split at h
  next => cases h
  next hwidth =>
    have hlegal : legalWidth n = true := by simpa using hwidth
    refine ⟨hlegal, ?_⟩
    split at h
    next =>
      rcases Cursor.subByteRead_value h with ⟨-, -, rfl, -⟩ | ⟨-, -, b, -, -, rfl, -⟩
      · exact topField_lt _ _ _
      · exact topField_lt _ _ _
    next hlarge =>
      split at h
      next h8 =>
        obtain ⟨-, -, b, -, rfl, -⟩ := Cursor.byteRead_value h
        rw [h8]
        exact b.isLt
      next =>
        obtain ⟨-, -, bs, hbs, rfl, -⟩ := Cursor.multiByteRead_value h
        have hbits : n.toNat = 8 * bs.length := by
          have hlen := Memory.length_readBytes hbs
          have hcases := legalWidth_iff.1 hlegal
          omega
        rw [hbits, Nat.pow_mul]
        exact orderedValue_lt _ bs

theorem mem_widths_of_legal {n : Int} (h : legalWidth n = true) :
    n ∈ ([1, 2, 3, 4, 5, 6, 7, 8, 16, 24, 32] : List Int) := by
  have hcases := legalWidth_iff.1 h
  simp only [List.mem_cons, List.not_mem_nil, or_false]
  omega

/-- Settles O15: the width is tested first, and each form of the read keeps to it. -/
theorem readResultFitsWidth : Obligations.ReadResultFitsWidth := fun _ _ _ _ _ _ h =>
  ⟨mem_widths_of_legal (Cursor.readBits_value_lt h).1, (Cursor.readBits_value_lt h).2⟩

/-! ### `FLUSH`, `BYTESREAD` and the decoder's bit read -/

theorem exec_flush_of_idle {s : State} (h : s.stage = .idle) :
    exec .flush s = .next { s with rd := s.rd.flush, resp := .ok } := by
  rw [show exec .flush s = execFlush s from rfl, execFlush, if_pos h]
  rfl

/-- The bits that a flush drops are those up to the byte boundary. -/
theorem flush_bitPos_add_rem {s : State} (hs : CursorOk s) : s.rd.flush.bitPos = s.rd.bitPos + s.rd.rem := by
  have hsmall := hs.rem_small
  have hbytes : 0 < s.rd.rem → 1 ≤ s.rd.bytesRead := fun h => (hs.cached h).1
  simp only [Cursor.bitPos, Cursor.flush]
  omega

/-- Settles O17: the second flush finds no pending bits. -/
theorem flushDropsPendingBits : Obligations.FlushDropsPendingBits :=
  ⟨fun _ hs => ⟨flush_bitPos_add_rem hs, flush_bitPos hs⟩,
    fun _ hstage => ⟨exec_flush_of_idle hstage, exec_flush_of_idle hstage⟩⟩

theorem exec_bytesRead_of_idle {s : State} (h : s.stage = .idle) :
    exec .bytesRead s = .next { s with resp := .value s.rd.bytesRead } := by
  rw [show exec .bytesRead s = execBytesRead s from rfl, execBytesRead, if_pos h]
  rfl

/-- Settles O18: the bound by `SRC_LEN` is the cursor invariant's. -/
theorem bytesReadReturnsCounter : Obligations.BytesReadReturnsCounter :=
  ⟨fun _ => exec_bytesRead_of_idle, fun _ => rfl, fun _ hs => hs.in_source⟩

/-- Settles O5: before the end the bit read follows the stream, at the end no bit is upcoming. -/
theorem bitReadFollowsStream : Obligations.BitReadFollowsStream := by
  intro s hs hsrc
  refine ⟨fun hlt => ?_, fun hend => ?_⟩
  · obtain ⟨c, hnext, hpos, hok⟩ := nextBit_of_lt hs hsrc hlt
    obtain ⟨d, hd, hmove⟩ := nextBit_readsTo hnext
    obtain rfl : c = d := congrArg State.rd hd
    exact ⟨c, hnext, hpos, hmove.order_eq, hok⟩
  · exact nextBit_of_upcoming_nil hs (List.eq_nil_of_length_eq_zero (by rw [length_upcoming]; omega))

end Sys2Proof.Machine
end

section
/-!
PROOFS. The commands of a standalone writer: sub-byte fields, whole bytes in either byte order and how they read
back, and `PAD` (40_bitcursor.md R151 to R156).
-/

namespace Sys2Proof.Machine

/-! ### The answer of a write command -/

theorem writeCommand_of_ok {s : State} {n v : Int} {w : BitWriter} (hstage : s.stage = .idle)
    (h : s.wr.writeBits n v = .ok w) : writeCommand n v s = .next { s with wr := w, resp := .ok } := by
  rw [writeCommand, if_pos hstage, h]
  rfl

theorem writeCommand_of_error {s : State} {n v : Int} {k : ErrKind} (hstage : s.stage = .idle)
    (h : s.wr.writeBits n v = .error k) : writeCommand n v s = .next { s with resp := .error k } := by
  rw [writeCommand, if_pos hstage, h]
  rfl

theorem lowField_eq (n : Nat) (v : Int) : lowField n v = (v % 2 ^ n).toNat := by
  simp [lowField]

theorem lowField_lt (n : Nat) (v : Int) : lowField n v < 2 ^ n := by
  have hpos : (0 : Int) < (2 ^ n : Nat) := by exact_mod_cast Nat.two_pow_pos n
  have hlow := Int.emod_nonneg v (Int.ne_of_gt hpos)
  have hhigh := Int.emod_lt_of_pos v hpos
  rw [lowField]
  omega

/-! ### Sub-byte writes -/

theorem BitWriter.writeBits_of_subByte (w : BitWriter) (v : Int) {n : Int} (h1 : 1 ≤ n) (h7 : n ≤ 7) :
    w.writeBits n v = w.subByteWrite n.toNat v := by
  have hlegal : legalWidth n = true := legalWidth_iff.2 (.inl ⟨h1, by omega⟩)
  rw [BitWriter.writeBits, if_neg (by simp [hlegal]), if_pos (by omega)]

section SubByte
variable {w : BitWriter} {n : Nat} (v : Int)

theorem BitWriter.subByteWrite_of_room (h : w.cnt + n < 8) : w.subByteWrite n v = .ok (w.place n v) := by
  rw [BitWriter.subByteWrite, if_neg (by omega), if_neg (show (w.place n v).cnt ≠ 8 from Nat.ne_of_lt h)]

theorem BitWriter.subByteWrite_of_full (h : w.cnt + n = 8) :
    w.subByteWrite n v = .ok (w.place n v).completeByte := by
  rw [BitWriter.subByteWrite, if_neg (by omega), if_pos (show (w.place n v).cnt = 8 from h)]

theorem BitWriter.subByteWrite_crossing (h : 8 - w.cnt < n) :
    w.subByteWrite n v = .error .crossByteBoundary := by
  rw [BitWriter.subByteWrite, if_pos h]

end SubByte

theorem BitWriter.place_eq (w : BitWriter) (n : Nat) (v : Int) :
    w.place n v = { w with
      acc := w.acc ||| BitVec.ofNat 8 ((v % 2 ^ n).toNat * 2 ^ (8 - w.cnt - n)), cnt := w.cnt + n } := by
  rw [BitWriter.place, lowField_eq, Nat.shiftLeft_eq]

/-- A field that fills the byte is not shifted. -/
theorem BitWriter.place_acc_of_full {w : BitWriter} {n : Nat} (v : Int) (h : w.cnt + n = 8) :
    (w.place n v).acc = w.acc ||| BitVec.ofNat 8 (v % 2 ^ n).toNat := by
  have hshift : 8 - w.cnt - n = 0 := by omega
  simp [BitWriter.place_eq, hshift]

/-- A completed byte is read at the end of `SINK`, and every other address reads as before. -/
theorem BitWriter.read_completeByte (w : BitWriter) :
    w.completeByte.sink.read w.sinkLen = some w.acc ∧
      ∀ a, a ≠ w.sinkLen → w.completeByte.sink.read a = w.sink.read a :=
  ⟨Memory.read_write_same w.sink w.sinkLen w.acc, fun _ ha => Memory.read_write_other w.sink w.acc ha⟩

/-- Settles O20, by where the field ends in the byte. -/
theorem writeSubByte : Obligations.WriteSubByte := by
  intro s n v i hinstr h8 hstage
  obtain ⟨h1, h7⟩ := subByte_width (Command.wellFormed_of_instr hinstr) h8
  have hwrite := BitWriter.writeBits_of_subByte s.wr v h1 h7
  simp only [exec_command hinstr, commandMeaning]
  refine ⟨fun hroom => ?room, fun hfull => ?full, fun hcross => ?crossing⟩
  case room =>
    rw [writeCommand_of_ok hstage (hwrite.trans (BitWriter.subByteWrite_of_room v hroom)), BitWriter.place_eq]
  case full =>
    have hread := (s.wr.place n.toNat v).read_completeByte
    rw [BitWriter.place_acc_of_full v hfull] at hread
    exact ⟨_, writeCommand_of_ok hstage (hwrite.trans (BitWriter.subByteWrite_of_full v hfull)), hread⟩
  case crossing =>
    exact writeCommand_of_error hstage (hwrite.trans (BitWriter.subByteWrite_crossing v (by omega)))

/-! ### The bytes of a value -/

theorem length_leBytes (m v : Nat) : (leBytes m v).length = m := by
  induction m generalizing v with
  | zero => rfl
  | succ m ih => rw [leBytes, List.length_cons, ih]

theorem length_orderedBytes (o : ByteOrder) (m v : Nat) : (orderedBytes o m v).length = m := by
  cases o with
  | le => exact length_leBytes m v
  | be => exact List.length_reverse.trans (length_leBytes m v)

theorem getElem?_leBytes {m j : Nat} (v : Nat) (h : j < m) :
    (leBytes m v)[j]? = some (BitVec.ofNat 8 (v / 256 ^ j)) := by
  induction m generalizing v j with
  | zero => cases h
  | succ m ih =>
    cases j with
    | zero => simp [leBytes]
    | succ j => rw [leBytes, List.getElem?_cons_succ, ih _ (by omega), Nat.div_div_eq_div_mul, ← Nat.pow_succ']

theorem getElem?_orderedBytes_be {m j : Nat} (v : Nat) (h : j < m) :
    (orderedBytes .be m v)[j]? = some (BitVec.ofNat 8 (v / 256 ^ (m - 1 - j))) := by
  rw [orderedBytes, List.getElem?_reverse (by rwa [length_leBytes]), length_leBytes, getElem?_leBytes v (by omega)]

theorem leValue_leBytes (m v : Nat) : leValue (leBytes m v) = v % 256 ^ m := by
  induction m generalizing v with
  | zero => simp [leBytes, leValue, Nat.mod_one]
  | succ m ih =>
    have hsplit : v % 256 ^ (m + 1) = v % 256 + 256 * (v / 256 % 256 ^ m) := by rw [Nat.pow_succ', Nat.mod_mul]
    rw [leBytes, leValue, ih, BitVec.toNat_ofNat, hsplit]

/-- Read in the order in which they were written, the bytes of a value give it back (20_memory.md R66). -/
theorem orderedValue_orderedBytes (o : ByteOrder) (m v : Nat) :
    orderedValue o (orderedBytes o m v) = v % 256 ^ m := by
  cases o with
  | le => exact leValue_leBytes m v
  | be => rw [orderedValue, orderedBytes, beValue, List.reverse_reverse, leValue_leBytes]

/-! ### Writes of whole bytes -/

theorem BitWriter.alignedWrite_of_empty {w : BitWriter} (m : Nat) (v : Int) (h : w.cnt = 0) :
    w.alignedWrite m v = .ok (w.append (orderedBytes w.order m (lowField (8 * m) v))) := by
  rw [BitWriter.alignedWrite, if_neg (not_not.2 h)]

theorem BitWriter.alignedWrite_of_pending {w : BitWriter} (m : Nat) (v : Int) (h : w.cnt ≠ 0) :
    w.alignedWrite m v = .error .incompleteBitRead := by
  rw [BitWriter.alignedWrite, if_pos h]

theorem BitWriter.append_orderedBytes (w : BitWriter) (o : ByteOrder) (m v : Nat) :
    w.append (orderedBytes o m v) =
      { w with sink := w.sink.writeBytes w.sinkLen (orderedBytes o m v), sinkLen := w.sinkLen + m } := by
  rw [BitWriter.append, length_orderedBytes]

/-- The four aligned widths are one operation on their number of bytes (40_bitcursor.md R154). -/
theorem aligned_command {m : Nat} {v : Int} {i : Instr} (s : State)
    (h : m = 1 ∧ i = .writeBits8 v ∨ m = 2 ∧ i = .writeBits16 v ∨ m = 3 ∧ i = .writeBits24 v ∨
      m = 4 ∧ i = .writeBits32 v) :
    ∃ n : Int, exec i s = writeCommand n v s ∧ s.wr.writeBits n v = s.wr.alignedWrite m v := by
  rcases h with ⟨rfl, rfl⟩ | ⟨rfl, rfl⟩ | ⟨rfl, rfl⟩ | ⟨rfl, rfl⟩
  · exact ⟨8, rfl, rfl⟩
  · exact ⟨16, rfl, rfl⟩
  · exact ⟨24, rfl, rfl⟩
  · exact ⟨32, rfl, rfl⟩

/-- Settles O21: `SINK` changes by one write of the value's bytes at its end. -/
theorem writeAligned : Obligations.WriteAligned := by
  intro s m v i hi hstage
  obtain ⟨n, hexec, hwrite⟩ := aligned_command s hi
  rw [hexec]
  refine ⟨fun hempty => ?empty, fun hpending => ?pending⟩
  case empty =>
    have hlen := length_orderedBytes s.wr.order m (lowField (8 * m) v)
    have hput := hwrite.trans (BitWriter.alignedWrite_of_empty m v hempty)
    rw [BitWriter.append_orderedBytes] at hput
    refine ⟨_, writeCommand_of_ok hstage hput, fun j hj => ?_,
      fun a ha => Memory.read_writeBytes_outside _ _ _ (by rwa [hlen])⟩
    rw [Memory.read_writeBytes_inside _ _ _ (by rwa [hlen]), ← lowField_eq]
    cases s.wr.order with
    | le => exact getElem?_leBytes _ hj
    | be => exact getElem?_orderedBytes_be _ hj
  case pending => exact writeCommand_of_error hstage (hwrite.trans (BitWriter.alignedWrite_of_pending m v hpending))

/-- Settles O23: the bytes just written are read back, and in the same order they have the same value. -/
theorem alignedWriteReadsBack : Obligations.AlignedWriteReadsBack := by
  intro w w' m v h
  obtain ⟨-, rfl⟩ := BitWriter.alignedWrite_ok h
  rw [BitWriter.append_orderedBytes]
  have hread := Memory.readBytes_writeBytes w.sink w.sinkLen (orderedBytes w.order m (lowField (8 * m) v))
  rw [length_orderedBytes] at hread
  have hlt : lowField (8 * m) v < 256 ^ m := (lowField_lt (8 * m) v).trans_eq (Nat.pow_mul 2 8 m)
  rw [Cursor.multiByteRead_of_read rfl (Nat.le_refl _) hread, orderedValue_orderedBytes, Nat.mod_eq_of_lt hlt,
    lowField_eq]

/-! ### `PAD` -/

theorem exec_pad_of_idle {s : State} (h : s.stage = .idle) :
    exec .pad s = .next { s with wr := s.wr.pad, resp := .ok } := by
  rw [show exec .pad s = execPad s from rfl, execPad, if_pos h]
  rfl

theorem BitWriter.pad_of_empty {w : BitWriter} (h : w.cnt = 0) : w.pad = w := by
  rw [BitWriter.pad, if_neg (by omega)]

/-- The fill bit is 0, so that the byte is completed as it stands. -/
theorem BitWriter.pad_of_pending {w : BitWriter} (h : 0 < w.cnt) : w.pad = w.completeByte := by
  rw [BitWriter.pad, if_pos h]
  rfl

/-- Settles O22, by whether a byte has been begun. -/
theorem padCompletesByte : Obligations.PadCompletesByte := by
  intro s hstage
  rw [exec_pad_of_idle hstage]
  refine ⟨fun hempty => ?_, fun hpending => ?_⟩
  · rw [BitWriter.pad_of_empty hempty]
  · rw [BitWriter.pad_of_pending hpending]
    exact ⟨s.wr.completeByte.sink, rfl, s.wr.read_completeByte⟩

end Sys2Proof.Machine
end

section
/-!
PROOFS. The bits that a writer holds, and `emit`: one bit goes to the next position of `acc`, and a byte that is
full goes to `SINK` with the bits in the same places of the stream (40_bitcursor.md R153, R158).
-/

namespace Sys2Proof.Machine

/-- A completed byte moves its eight bits to `SINK`. -/
theorem BitWriter.written_completeByte {w : BitWriter} (h : w.cnt = 8) : w.completeByte.written = w.written := by
  obtain ⟨hlast, hrest⟩ := w.read_completeByte
  have hbefore : (List.range (8 * w.sinkLen)).map (streamBit w.completeByte.sink) =
      (List.range (8 * w.sinkLen)).map (streamBit w.sink) := by
    refine List.map_congr_left fun t ht => ?_
    have ht := List.mem_range.1 ht
    rw [streamBit, streamBit, hrest (t / 8) (by omega)]
  have hbyte : (List.range 8).map (fun j => streamBit w.completeByte.sink (8 * w.sinkLen + j)) =
      (List.range 8).map (byteBit w.acc) :=
    List.map_congr_left fun j hj => streamBit_of_read hlast (List.mem_range.1 hj)
  calc w.completeByte.written
      = (List.range (8 * w.sinkLen + 8)).map (streamBit w.completeByte.sink) := List.append_nil _
    _ = (List.range (8 * w.sinkLen)).map (streamBit w.completeByte.sink) ++
          (List.range 8).map (fun j => streamBit w.completeByte.sink (8 * w.sinkLen + j)) := by
        rw [List.range_add, List.map_append, List.map_map]
        rfl
    _ = w.written := by rw [hbefore, hbyte, BitWriter.written, h]

/-- One step of `emit` before the full byte is completed: the bit in the highest free position of `acc`. -/
def BitWriter.placeBit (w : BitWriter) (b : Bool) : BitWriter := w.place 1 (if b then 1 else 0)

theorem lowField_one_bit (b : Bool) : lowField 1 (if b then 1 else 0) = b.toNat := by
  cases b <;> rfl

/-- One placed bit stands at position `cnt`; the positions before it keep theirs, and the unwritten ones were 0. -/
theorem BitWriter.byteBit_placeBit {w : BitWriter} (hw : WriterOk w) (b : Bool) {j : Nat} (hj : j ≤ w.cnt) :
    byteBit (w.placeBit b).acc j = if j = w.cnt then b else byteBit w.acc j := by
  have hcnt := hw.cnt_small
  have hplaced : (b.toNat <<< (8 - w.cnt - 1)).testBit (7 - j) = (decide (j = w.cnt) && b) := by
    have hhere : 8 - w.cnt - 1 ≤ 7 - j := by omega
    have hzero : 7 - j - (8 - w.cnt - 1) = 0 ↔ j = w.cnt := by omega
    simp [Nat.testBit_shiftLeft, Nat.testBit_bool_toNat, hhere, hzero]
  have hpos : 7 - j < 8 := by omega
  simp only [BitWriter.placeBit, BitWriter.place, lowField_one_bit, byteBit, BitVec.getLsbD_or, BitVec.getLsbD_ofNat,
    hplaced, hpos, decide_true, Bool.true_and]
  split
  next heq => simp [heq, hw.unwritten_zero (7 - w.cnt) (by omega)]
  next hne => simp [hne]

theorem BitWriter.written_placeBit {w : BitWriter} (hw : WriterOk w) (b : Bool) :
    (w.placeBit b).written = w.written ++ [b] := by
  have hkept : (List.range w.cnt).map (byteBit (w.placeBit b).acc) =
      (List.range w.cnt).map (byteBit w.acc) := by
    refine List.map_congr_left fun j hj => ?_
    have hj := List.mem_range.1 hj
    rw [BitWriter.byteBit_placeBit hw b (Nat.le_of_lt hj), if_neg (Nat.ne_of_lt hj)]
  have hnew : byteBit (w.placeBit b).acc w.cnt = b := by
    rw [BitWriter.byteBit_placeBit hw b (Nat.le_refl _), if_pos rfl]
  calc (w.placeBit b).written
      = (List.range (8 * w.sinkLen)).map (streamBit w.sink) ++
          (List.range (w.cnt + 1)).map (byteBit (w.placeBit b).acc) := rfl
    _ = w.written ++ [b] := by
        rw [List.range_succ, List.map_append, hkept, List.map_singleton, hnew, ← List.append_assoc]
        rfl

/-- A well-formed writer has room for one bit, so one step of `emit` cannot fail. -/
theorem BitWriter.emitBit_eq {w : BitWriter} (hw : WriterOk w) (b : Bool) :
    w.emitBit b = if w.cnt = 7 then (w.placeBit b).completeByte else w.placeBit b := by
  have hcnt := hw.cnt_small
  have hwrite := w.writeBits_of_subByte (if b then 1 else 0) (n := 1) (by decide) (by decide)
  split
  next hlast =>
    have hput := hwrite.trans (BitWriter.subByteWrite_of_full _ (show w.cnt + 1 = 8 by omega))
    rw [BitWriter.emitBit, hput]
    rfl
  next hroom =>
    have hput := hwrite.trans (BitWriter.subByteWrite_of_room _ (show w.cnt + 1 < 8 by omega))
    rw [BitWriter.emitBit, hput]
    rfl

theorem BitWriter.written_emitBit {w : BitWriter} (hw : WriterOk w) (b : Bool) :
    (w.emitBit b).written = w.written ++ [b] := by
  rw [BitWriter.emitBit_eq hw b]
  split
  next hlast =>
    have hfull : (w.placeBit b).cnt = 8 := congrArg (· + 1) hlast
    rw [BitWriter.written_completeByte hfull, BitWriter.written_placeBit hw]
  next => exact BitWriter.written_placeBit hw b

theorem BitWriter.written_emit {w : BitWriter} (hw : WriterOk w) (bits : Bits) :
    (w.emit bits).written = w.written ++ bits := by
  induction bits generalizing w with
  | nil => exact (List.append_nil _).symm
  | cons b bits ih =>
    have hrest : ((w.emitBit b).emit bits).written = (w.emitBit b).written ++ bits :=
      ih ((w.emitBit_writesTo b).keeps_ok hw)
    rw [BitWriter.written_emitBit hw, List.append_assoc] at hrest
    exact hrest

/-- Settles O24, bit by bit; the writer's invariants are kept as by every write. -/
theorem emitAppendsBits : Obligations.EmitAppendsBits := fun w bits hw =>
  ⟨BitWriter.written_emit hw bits, (w.emit_writesTo bits).keeps_ok hw⟩

end Sys2Proof.Machine
end

section
/-!
PROOFS. The words of a run's table, by value: below 64 a word ends the run being read, from 64 on it lets the run
grow (41_run_codes.md R183 to R188).
-/

namespace Sys2Proof.Machine

/-- The classes of the words that end a run (41_run_codes.md R184, R186). -/
def terminatingClasses : List WordClass := [.whiteTerm, .blackTerm]

/-- The values tell the terminating words from the makeup words (30_encoding.md R108 to R112). -/
theorem runValue_lt_iff {i : Instr} {n : Nat} (h : runValue i = some n) : n < 64 ↔ i.format ∈ terminatingClasses := by
  cases i <;> cases h <;> decide

/-- Of the three classes in the table of a colour one ends a run of that colour, and two let it grow
(41_run_codes.md R181). -/
theorem runMeaning_of_color (c : Color) (n : Nat) : ∀ f ∈ (Context.run c).classes,
    (f ∈ terminatingClasses ∧ runMeaning f n = terminating c n) ∨
      (f ∉ terminatingClasses ∧ (runMeaning f n = makeup c n ∨ runMeaning f n = extendedMakeup n)) := by
  cases c <;> simp [Context.classes, terminatingClasses, runMeaning]

/-- A word of the table of `c` ends a run of `c` or lets it grow, as its value says. -/
theorem exec_wordOfColor {c : Color} {i : Instr} {n : Nat} (hi : wellFormed (.run c) i = true)
    (hv : runValue i = some n) :
    (n < 64 ∧ exec i = terminating c n) ∨ (¬ n < 64 ∧ (exec i = makeup c n ∨ exec i = extendedMakeup n)) := by
  rw [exec_runWord hv, runValue_lt_iff hv]
  exact runMeaning_of_color c n i.format (Context.accepts_iff.1 hi)

section WordOfColor
variable {s : State} {c : Color} {i : Instr} {n : Nat}

theorem exec_terminatingWord (hcolor : s.runColor = some c) (hi : wellFormed (.run c) i = true)
    (hv : runValue i = some n) (hn : n < 64) : exec i s = .next (s.finishRun (s.tot + n)) := by
  rcases exec_wordOfColor hi hv with ⟨-, hexec⟩ | ⟨hmakeup, -⟩
  · simp [hexec, terminating, hcolor]
  · exact absurd hn hmakeup

theorem exec_makeupWord (hcolor : s.runColor = some c) (hi : wellFormed (.run c) i = true)
    (hv : runValue i = some n) (hn : 64 ≤ n) : exec i s = .next (s.addRun n) := by
  rcases exec_wordOfColor hi hv with ⟨hterm, -⟩ | ⟨-, hexec | hexec⟩
  · exact absurd hterm (Nat.not_lt.2 hn)
  · simp [hexec, makeup, hcolor]
  · simp [hexec, extendedMakeup, hcolor]

end WordOfColor

/-- Settles O30: whichever class the makeup word is of, it adds its value to `tot`. -/
theorem makeupWordsAccumulate : Obligations.MakeupWordsAccumulate := fun _ _ _ _ hcolor hi hv hn =>
  exec_makeupWord hcolor hi hv hn

theorem runColor_first {s : State} (hstage : s.stage = .horiz) (hfirst : s.r1 = none) :
    s.runColor = some s.color := by
  simp [State.runColor, hstage, hfirst]

/-- Settles O31: the first run has the colour of the step, and its end is kept in `r1`. -/
theorem terminatingWordKeepsFirstRun : Obligations.TerminatingWordKeepsFirstRun := by
  rintro s c i n hstage hfirst rfl hi hv hn
  rw [exec_terminatingWord (runColor_first hstage hfirst) hi hv hn, State.finishRun_first _ hstage hfirst]

end Sys2Proof.Machine
end

section
/-!
PROOFS. The mode codes: what `findB` answers, which words mean something in `READ_MODE`, and what the `PASS`, `VERT`
and `HORIZ` steps do (42_mode_codes.md R210 to R233).
-/

namespace Sys2Proof.Machine

/-! ### The reference positions -/

/-- A parity and a colour agree where their bits do. -/
theorem colorBit_eq_iff {c d : Color} : colorBit c % 2 = colorBit d ↔ c = d := by
  cases c <;> cases d <;> decide

/-- The walk of `findBFrom` flips the parity where the index grows. -/
theorem colorBit_opp_add (c : Color) (i : Nat) : (colorBit (opp c) + i) % 2 = (colorBit c + (i + 1)) % 2 := by
  cases c <;> simp only [opp, colorBit] <;> omega

/-- An element that does not qualify is passed over. -/
theorem findBFrom_cons_of_le {width a0 e : Int} {color parity : Color} (rest : List Int)
    (h : colorBit parity % 2 = colorBit color → e ≤ a0) :
    findBFrom width a0 color parity (e :: rest) = findBFrom width a0 color (opp parity) rest :=
  if_neg fun hq => absurd (h (colorBit_eq_iff.2 hq.1)) (not_le.2 hq.2)

/-- `findBFrom` answers the qualifying element of least index and its successor. -/
theorem findBFrom_of_least {width a0 e : Int} {color : Color} {elems : List Int} {parity : Color} {i : Nat}
    (hi : elems[i]? = some e) (hpar : (colorBit parity + i) % 2 = colorBit color) (hright : a0 < e)
    (hleast : ∀ j f, j < i → elems[j]? = some f → (colorBit parity + j) % 2 = colorBit color → f ≤ a0) :
    findBFrom width a0 color parity elems = (e, elems.getD (i + 1) width) := by
  induction elems generalizing parity i with
  | nil => simp at hi
  | cons x rest ih =>
    cases i with
    | zero =>
      obtain rfl : x = e := by simpa using hi
      rw [findBFrom, if_pos ⟨colorBit_eq_iff.1 hpar, hright⟩]
      cases rest <;> rfl
    | succ i =>
      rw [findBFrom_cons_of_le rest (hleast 0 x i.succ_pos rfl)]
      exact ih hi (by rwa [colorBit_opp_add]) fun j f hj hf hp =>
        hleast (j + 1) f (Nat.succ_lt_succ hj) hf (by rwa [← colorBit_opp_add])

/-- Where no element qualifies, both positions are the sentinel. -/
theorem findBFrom_of_none {width a0 : Int} {color : Color} {elems : List Int} {parity : Color}
    (h : ∀ i e, elems[i]? = some e → (colorBit parity + i) % 2 = colorBit color → e ≤ a0) :
    findBFrom width a0 color parity elems = (width, width) := by
  induction elems generalizing parity with
  | nil => rfl
  | cons x rest ih =>
    rw [findBFrom_cons_of_le rest (h 0 x rfl)]
    exact ih fun i e he hp => h (i + 1) e he (by rwa [← colorBit_opp_add])

/-- `b1` is an element left of its successor `b2`, or both are the sentinel. -/
theorem findBFrom_lt_or_eq {width a0 : Int} {line : List Int} (color parity : Color) (h : LineOk width line) :
    (findBFrom width a0 color parity line).1 < (findBFrom width a0 color parity line).2 ∨
      (findBFrom width a0 color parity line).1 = width := by
  induction line generalizing parity with
  | nil => exact .inr rfl
  | cons e rest ih =>
    unfold findBFrom
    split
    next => exact .inl (headD_bounds h).1
    next => exact ih (opp parity) (lineOk_tail h)

/-- Settles O29: the bounds are those of the walk, and two equal positions are the sentinel twice. -/
theorem findBBounds : Obligations.FindBBounds := by
  intro width a0 ref color href hlow hhigh
  obtain ⟨hb1, hb12, hb2⟩ := findB_bounds color href hhigh
  refine ⟨hb1, hb12, hb2, by omega, fun heq => ?_⟩
  exact (findBFrom_lt_or_eq color .white href).resolve_left heq.not_lt

/-! ### The words that mean something in `READ_MODE` -/

/-- Every command asks for `IDLE` first (assumption 11). -/
theorem exec_command_of_not_idle {i : Instr} {s : State} (hi : i.format = .command) (hs : s.stage ≠ .idle) :
    exec i s = .refused .callInProgress := by
  cases i <;> cases hi <;> exact if_neg hs

/-- Every code word belongs to the table of a context (30_encoding.md R101). -/
theorem exists_context_of_codeWord {i : Instr} (h : i.format ≠ .command) : ∃ ctx, wellFormed ctx i = true := by
  unfold wellFormed
  cases hf : i.format with
  | mode => exact ⟨.mode, rfl⟩
  | whiteTerm => exact ⟨.run .white, rfl⟩
  | whiteMakeup => exact ⟨.run .white, rfl⟩
  | blackTerm => exact ⟨.run .black, rfl⟩
  | blackMakeup => exact ⟨.run .black, rfl⟩
  | extMakeup => exact ⟨.run .white, rfl⟩
  | eol => exact ⟨.eol, rfl⟩
  | tag => exact ⟨.tag, rfl⟩
  | command => exact absurd hf h

/-- A run code word acts only while a run is being read. -/
theorem runColor_of_exec_runWord {c : Color} {i : Instr} {s t : State} (hi : wellFormed (.run c) i = true)
    (h : exec i s = .next t) : ∃ d, s.runColor = some d := by
  obtain ⟨n, hn⟩ := Option.isSome_iff_exists.1 (runValue_isSome_of_mem i (mem_tableOf_iff.2 hi))
  rcases exec_wordOfColor hi hn with ⟨-, hexec⟩ | ⟨-, hexec | hexec⟩ <;> rw [hexec] at h
  · exact ⟨c, (terminating_next h).1⟩
  · exact ⟨c, (makeup_next h).1⟩
  · exact (extendedMakeup_next h).1

/-- A framing word acts only at the start of a row. -/
theorem rowStart_of_exec_framing {i : Instr} {s t : State} (hi : i = .eol ∨ i = .tag0 ∨ i = .tag1)
    (h : exec i s = .next t) : s.stage = .rowStart := by
  by_contra hs
  rcases hi with rfl | rfl | rfl
  · simp [exec, execEol, hs] at h
  · simp [exec, execTag0, hs] at h
  · simp [exec, execTag1, hs] at h

/-- In `READ_MODE` the mode words alone have a meaning. -/
theorem mem_modeWords_of_exec {i : Instr} {s t : State} (hs : s.stage = .readMode) (h : exec i s = .next t) :
    i ∈ modeWords := by
  by_cases hcmd : i.format = .command
  · rw [exec_command_of_not_idle hcmd (by simp [hs])] at h
    cases h
  · obtain ⟨ctx, hi⟩ := exists_context_of_codeWord hcmd
    cases ctx with
    | mode => exact mem_tableOf_iff.2 hi
    | run c =>
      obtain ⟨d, hd⟩ := runColor_of_exec_runWord hi h
      simp [State.runColor, hs] at hd
    | eol =>
      have hfram : i = .eol := by simpa [tableOf] using mem_tableOf_iff.2 hi
      simp [rowStart_of_exec_framing (.inl hfram) h] at hs
    | tag =>
      have hfram : i = .tag0 ∨ i = .tag1 := by simpa [tableOf] using mem_tableOf_iff.2 hi
      simp [rowStart_of_exec_framing (.inr hfram) h] at hs

/-- Settles O28: a mode word is the only one to act in `READ_MODE` and latches what `findB` answers, and that is
what the walk along the reference line finds. -/
theorem findBIsFirstQualifying : Obligations.FindBIsFirstQualifying := by
  refine ⟨fun s t i hs h => ?_, fun width a0 ref color => ⟨fun i e hi hpar hright hleast => ?_, fun h => ?_⟩⟩
  · rcases exec_modeWord_next (mem_modeWords_of_exec hs h) hs h with rfl | rfl | ⟨o, rfl⟩ <;> rfl
  · refine findBFrom_of_least hi ?_ hright fun j f hj hf hp => hleast j f hj hf ?_
    · simpa [colorBit] using hpar
    · simpa [colorBit] using hp
  · exact findBFrom_of_none fun i e he hp => h i e he (by simpa [colorBit] using hp)

theorem exec_p_readMode {s : State} (h : s.stage = .readMode) :
    exec .p s = .next { s.latchB with stage := .pass } := by
  simp [exec, execP, h]

theorem exec_h_readMode {s : State} (h : s.stage = .readMode) :
    exec .h s = .next { s.latchB with stage := .horiz, tot := 0, r1 := none } := by
  simp [exec, execH, h]

theorem exec_offsetInstr_readMode {s : State} (o : Offset) (h : s.stage = .readMode) :
    exec (offsetInstr o) s = .next { s.latchB with k := o, stage := .vert } := by
  rw [exec_offsetInstr]
  simp [vertical, h]

/-- Settles O25, for `P`, for `H` and for the word of any offset. -/
theorem modeWordsLatch : Obligations.ModeWordsLatch := by
  intro s hs
  refine ⟨exec_p_readMode hs, exec_h_readMode hs, fun i o hio => ?_⟩
  obtain rfl : i = offsetInstr o := by
    rcases hio with ⟨rfl, rfl⟩ | ⟨rfl, rfl⟩ | ⟨rfl, rfl⟩ | ⟨rfl, rfl⟩ | ⟨rfl, rfl⟩ | ⟨rfl, rfl⟩ | ⟨rfl, rfl⟩ <;> rfl
  exact exec_offsetInstr_readMode o hs

/-! ### The `PASS` step -/

/-- Settles O26: the `PASS` step is completed or raised, as `b2` is right of `a0` or not. -/
theorem passMovesToB2 : Obligations.PassMovesToB2 := by
  refine ⟨rfl, fun s hs => ?_⟩
  rw [exec_p_pass hs]
  rcases s.passAction_cases with ⟨hstall, heq⟩ | ⟨hlow, heq⟩ <;> rw [heq]
  · exact ⟨fun hlow => absurd hlow (not_lt.2 hstall), fun _ => ⟨_, rfl, rfl, rfl⟩⟩
  · exact ⟨fun _ => rfl, fun hstall => absurd hlow (not_lt.2 hstall)⟩

/-! ### Recording -/

/-- An element right of the last one is recorded, but for the sentinel (42_mode_codes.md R230). -/
theorem record_of_right {width e : Int} {cur : List Int} (h : ∀ l, cur.getLast? = some l → l < e) :
    record width cur e = some (if e = width then cur else cur ++ [e]) := by
  unfold record
  split
  · rfl
  · split
    next l hl => exact if_neg (not_le.2 (h l hl))
    next => rfl

/-- The same line, as the elements that are appended. -/
theorem record_append_of_right {width e : Int} {cur : List Int} (h : ∀ l, cur.getLast? = some l → l < e) :
    record width cur e = some (cur ++ if e = width then [] else [e]) := by
  rw [record_of_right h]
  split
  · rw [List.append_nil]
  · rfl

/-- After an element is recorded, what is right of it is right of the line. -/
theorem getLast?_lt_of_recorded {width e f : Int} {cur : List Int} (h : ∀ l, cur.getLast? = some l → l < e)
    (hle : e ≤ f) (hlt : e ≠ width → e < f) :
    ∀ l, (cur ++ if e = width then [] else [e]).getLast? = some l → l < f := by
  intro l hl
  split at hl
  next => exact (h l (by rwa [List.append_nil] at hl)).trans_le hle
  next hne =>
    obtain rfl : e = l := by simpa using hl
    exact hlt hne

/-! ### The `VERT` step -/

/-- A step outside `(a0, WIDTH]` is raised. -/
theorem vertAction_failed {s : State} {o : Offset}
    (h : ¬ (s.a0 < s.b1 + offsetValue o ∧ s.b1 + offsetValue o ≤ s.width)) :
    (s.vertAction o).stage = .failed ∧ (s.vertAction o).err = .decompressionError := by
  rcases s.vertAction_cases o with ⟨_, _, heq⟩ | ⟨_, heq⟩ | ⟨_, -, hlow, hhigh, -⟩
  · exact heq ▸ ⟨rfl, rfl⟩
  · exact heq ▸ ⟨rfl, rfl⟩
  · exact absurd ⟨hlow, hhigh⟩ h

theorem vertAction_of_record {s : State} {o : Offset} {line : List Int}
    (hrec : record s.width s.cur (s.b1 + offsetValue o) = some line) (hlow : s.a0 < s.b1 + offsetValue o)
    (hhigh : s.b1 + offsetValue o ≤ s.width) :
    s.vertAction o = { s.flipColor with
      cur := line, a0 := s.b1 + offsetValue o, stage := nextStage s.width (s.b1 + offsetValue o) } := by
  simp only [State.vertAction, hlow.not_gt, hhigh.not_gt, stalled, hlow.not_ge, decide_false, hrec, if_false,
    Bool.false_eq_true]

/-- Settles O27: the step of an offset is raised outside `(a0, WIDTH]`, and inside it `a1` is right of every recorded
element. -/
theorem verticalStep : Obligations.VerticalStep := by
  intro s i d hid hs
  obtain ⟨o, rfl, rfl⟩ : ∃ o, i = offsetInstr o ∧ d = offsetValue o := by
    rcases hid with ⟨rfl, rfl⟩ | ⟨rfl, rfl⟩ | ⟨rfl, rfl⟩ | ⟨rfl, rfl⟩ | ⟨rfl, rfl⟩ | ⟨rfl, rfl⟩ | ⟨rfl, rfl⟩
    · exact ⟨.zero, rfl, rfl⟩
    · exact ⟨.right1, rfl, rfl⟩
    · exact ⟨.right2, rfl, rfl⟩
    · exact ⟨.right3, rfl, rfl⟩
    · exact ⟨.left1, rfl, rfl⟩
    · exact ⟨.left2, rfl, rfl⟩
    · exact ⟨.left3, rfl, rfl⟩
  rw [exec_offsetInstr_vert o hs]
  refine ⟨fun hbad => ⟨_, rfl, vertAction_failed (by omega)⟩, fun hcur hlow hhigh => ?_⟩
  have hright (l : Int) (hl : s.cur.getLast? = some l) : l < s.b1 + offsetValue o :=
    (hcur l (List.mem_of_getLast? hl)).trans_lt hlow
  exact congrArg Host.Outcome.next (vertAction_of_record (record_of_right hright) hlow hhigh)

/-! ### The end of a Horizontal -/

theorem runColor_second {s : State} {r : Nat} (hstage : s.stage = .horiz) (hfirst : s.r1 = some r) :
    s.runColor = some (opp s.color) := by
  simp [State.runColor, hstage, hfirst]

theorem opp_eq_of_ne {c d : Color} (h : c ≠ d) : opp c = d := by
  cases c <;> cases d <;> simp [opp] at h ⊢

section FinishHorizontal
variable {s : State} {r n : Nat} {e1 e2 : Int} (he1 : e1 = startColumn s.a0 + r) (he2 : e2 = e1 + n)
include he1 he2

/-- A total beyond `WIDTH` and an element that repeats a column are raised. -/
theorem finishHorizontal_failed
    (h : s.width < e2 ∨ (e1 ≠ s.width ∧ s.cur.getLast? = some e1) ∨ (e1 ≠ s.width ∧ e2 = e1)) :
    (s.finishHorizontal r n).stage = .failed ∧ (s.finishHorizontal r n).err = .decompressionError := by
  rcases s.finishHorizontal_cases r n with ⟨_, _, heq⟩ | ⟨_, heq⟩ | ⟨line1, line2, hrec1, hrec2, hhigh, -, -⟩
  · exact heq ▸ ⟨rfl, rfl⟩
  · exact heq ▸ ⟨rfl, rfl⟩
  · rw [← he1] at hrec1 hrec2 hhigh
    rw [← he2] at hrec2 hhigh
    rcases h with hover | ⟨hne, hlast⟩ | ⟨hne, rfl⟩
    · exact absurd hover (not_lt.2 hhigh)
    · rcases record_some hrec1 with ⟨heq, -⟩ | ⟨-, hright, -⟩
      · exact absurd heq hne
      · exact absurd (hright e1 hlast) (lt_irrefl e1)
    · rw [record_of_lt hrec1 (lt_of_le_of_ne hhigh hne)] at hrec2
      rcases record_some hrec2 with ⟨heq, -⟩ | ⟨-, hright, -⟩
      · exact absurd heq hne
      · exact absurd (hright e2 List.getLast?_concat) (lt_irrefl e2)

theorem finishHorizontal_of_records {line1 line2 : List Int} (hrec1 : record s.width s.cur e1 = some line1)
    (hrec2 : record s.width line1 e2 = some line2) (hlow : s.a0 < e2) (hhigh : e2 ≤ s.width) :
    s.finishHorizontal r n = { s with
      cur := line2, a0 := e2, stage := nextStage s.width e2, tot := 0, r1 := none } := by
  simp only [State.finishHorizontal, ← he1, ← he2, hhigh.not_gt, hrec1, hrec2, stalled, hlow.not_ge, decide_false,
    if_false, Bool.false_eq_true]

end FinishHorizontal

/-- Settles O32: the word ends the second run, which has the other colour; where no column repeats, both elements are
right of the last one, the sentinel included. -/
theorem terminatingWordEndsHorizontal : Obligations.TerminatingWordEndsHorizontal := by
  intro s c i n r e1 e2 hstage hfirst hcolor hi hv hn he1 he2
  have hrun : s.runColor = some c := by rw [runColor_second hstage hfirst, opp_eq_of_ne hcolor]
  rw [exec_terminatingWord hrun hi hv hn, State.finishRun_second _ hstage hfirst]
  refine ⟨fun hbad => ⟨_, rfl, finishHorizontal_failed he1 he2 hbad⟩, fun hhigh hinside hcur hlast hnext => ?_⟩
  have hlow1 : s.a0 ≤ e1 := by omega
  have hright1 (l : Int) (hl : s.cur.getLast? = some l) : l < e1 :=
    lt_of_le_of_ne ((hcur l (List.mem_of_getLast? hl)).trans hlow1) fun heq => hlast (heq ▸ hl)
  have hright2 := getLast?_lt_of_recorded (width := s.width) hright1 (f := e2) (by omega) hnext.resolve_left
  exact congrArg Host.Outcome.next (finishHorizontal_of_records he1 he2 (record_append_of_right hright1)
    (record_append_of_right hright2) (by omega) hhigh)

/-! ### Progress inside a row -/

/-- At or left of `WIDTH` the row ends exactly at `WIDTH` (42_mode_codes.md R233). -/
theorem nextStage_of_le {width a0 : Int} (h : a0 ≤ width) :
    nextStage width a0 = if a0 = width then .rowEnd else .readMode := by
  rcases nextStage_cases width a0 with ⟨hfull, heq⟩ | ⟨hmore, heq⟩ <;> rw [heq]
  · exact (if_pos (le_antisymm h hfull)).symm
  · exact (if_neg hmore.ne).symm

/-- An action of a mode moves `a0` right, at most to `WIDTH`; a code word that ends no Horizontal leaves the row as it
is. -/
theorem StepCase.advances_a0 {s t : State} (h : StepCase s t) (hs : CallOk s)
    (hstage : s.stage = .pass ∨ s.stage = .vert ∨ s.stage = .horiz) (hok : t.stage ≠ .failed) :
    (s.a0 < t.a0 ∧ t.a0 ≤ s.width ∧ t.stage = (if t.a0 = s.width then .rowEnd else .readMode)) ∨
    (s.stage = .horiz ∧ t.stage = .horiz ∧ t.a0 = s.a0 ∧ t.color = s.color ∧ t.cur = s.cur) := by
  cases h with
  | passDone hg hlow =>
    have hhigh := (hs.pass_target hg).2
    exact .inl ⟨hlow, hhigh, nextStage_of_le hhigh⟩
  | vertDone _ _ _ hlow hhigh => exact .inl ⟨hlow, hhigh, nextStage_of_le hhigh⟩
  | horizDone _ _ _ _ _ _ _ hlow hhigh => exact .inl ⟨hlow, hhigh, nextStage_of_le hhigh⟩
  | firstRunEnded hg => exact .inr ⟨hg, hg, rfl, rfl, rfl⟩
  | runGrown hg =>
    rcases hg with hg | hg
    · exact .inr ⟨hg, hg, rfl, rfl, rfl⟩
    · simp [hg] at hstage
  | wordRaised => exact absurd rfl hok
  | actionRaised => exact absurd rfl hok
  | startDecompress hg | startCompress hg | badGeometry hg | command hg | rowBegun hg | eolRead hg | tag0Read hg
  | tag1Read hg | horizLatched hg | passLatched hg | vertLatched hg | oneDDone hg | rowEnded hg | rowLoaded hg
  | choiceEncoded hg | rowEncoded hg | lastRowEncoded hg => simp [hg] at hstage

/-- Settles O46, over what a step can do. -/
theorem actionsAdvanceA0 : Obligations.ActionsAdvanceA0 := fun _ _ hs hstep hstage hok =>
  (stepCase_of_step hstep).advances_a0 hs hstage hok

end Sys2Proof.Machine
end

section
/-!
PROOFS. The raster assembler: the pixels of a painted and of a packed row, and packing and scanning as inverses
(43_rows_and_raster.md R260, R264, R265).
-/

namespace Sys2Proof.Machine

/-! ### The pixels of a line -/

theorem linePixel_cons (e : Int) (line : List Int) (x : Nat) :
    linePixel (e :: line) x = (decide (e ≤ (x : Int)) ^^ linePixel line x) := by
  unfold linePixel
  by_cases h : e ≤ (x : Int)
  · simp only [h, List.filter_cons_of_pos, decide_true, List.length_cons, Bool.true_xor]
    rcases Nat.mod_two_eq_zero_or_one (line.filter fun e => decide (e ≤ (x : Int))).length with heven | hodd
    · simp [Nat.add_mod, heven]
    · simp [Nat.add_mod, hodd]
  · simp [h]

/-- Left of its elements a line is white. -/
theorem linePixel_of_right {line : List Int} {x : Nat} (h : ∀ e ∈ line, (x : Int) < e) :
    linePixel line x = false := by
  have hnone : line.filter (fun e => decide (e ≤ (x : Int))) = [] :=
    List.filter_eq_nil_iff.2 fun e he => by simpa using h e he
  simp [linePixel, hnone]

/-! ### Painting -/

/-- The painted bit is the one that the pixel test looks at. -/
theorem getLsbD_paint : ∀ j < 8, ∀ k < 8, (0x80#8 >>> k).getLsbD (7 - j) = decide (j = k) := by decide

theorem packedPixel_paintPixel {out : List Byte} {x : Nat} (hx : x / 8 < out.length) (y : Nat) :
    packedPixel (paintPixel out x) y = (decide (y = x) || packedPixel out y) := by
  unfold packedPixel paintPixel
  rw [List.getD_eq_getElem?_getD, List.getD_eq_getElem?_getD, List.getElem?_modify]
  by_cases hbyte : x / 8 = y / 8
  · have hbit := getLsbD_paint (y % 8) (Nat.mod_lt y (by decide)) (x % 8) (Nat.mod_lt x (by decide))
    have hsame : y % 8 = x % 8 ↔ y = x := by omega
    have hsome : out[y / 8]? = some out[x / 8] := by rw [← hbyte, List.getElem?_eq_getElem hx]
    simp only [hsome, hbyte, if_true, Option.map_eq_map, Option.map_some, Option.getD_some, BitVec.getLsbD_or, hbit,
      hsame, Bool.or_comm]
  · have hne : y ≠ x := by rintro rfl; exact hbyte rfl
    simp [hbyte, hne]

theorem length_paintPixel (out : List Byte) (x : Nat) : (paintPixel out x).length = out.length :=
  List.length_modify ..

theorem packedPixel_foldl_paintPixel {xs : List Nat} {out : List Byte} (hxs : ∀ x ∈ xs, x / 8 < out.length)
    (y : Nat) : packedPixel (xs.foldl paintPixel out) y = (decide (y ∈ xs) || packedPixel out y) := by
  induction xs generalizing out with
  | nil => simp
  | cons x xs ih =>
    rw [List.foldl_cons, ih fun x' hx' => by rw [length_paintPixel]; exact hxs x' (List.mem_cons_of_mem x hx'),
      packedPixel_paintPixel (hxs x List.mem_cons_self)]
    simp [Bool.or_left_comm, Bool.or_assoc]

/-- A painted run is black exactly in its columns. -/
theorem packedPixel_paintRun {out : List Byte} {e : Nat} (p : Nat) (he : e ≤ 8 * out.length) (y : Nat) :
    packedPixel (paintRun out p e) y = (decide (p ≤ y ∧ y < e) || packedPixel out y) := by
  have hcolumns : ∀ x ∈ List.range' p (e - p), x / 8 < out.length := fun x hx => by
    have := List.mem_range'_1.1 hx
    omega
  have hmem : y ∈ List.range' p (e - p) ↔ p ≤ y ∧ y < e := by
    rw [List.mem_range'_1]
    omega
  rw [paintRun, packedPixel_foldl_paintPixel hcolumns]
  simp only [hmem]

/-- A white run is left as it is. -/
theorem packedPixel_runOfColor {out : List Byte} {e : Nat} (c : Color) (p : Nat) (he : e ≤ 8 * out.length) (y : Nat) :
    packedPixel (if c = .black then paintRun out p e else out) y =
      ((decide (p ≤ y ∧ y < e) && decide (c = .black)) || packedPixel out y) := by
  cases c with
  | white => simp
  | black => simp [packedPixel_paintRun p he]

/-! ### Packing -/

theorem length_runOfColor (c : Color) (out : List Byte) (p e : Nat) :
    (if c = .black then paintRun out p e else out).length = out.length := by
  split
  · exact length_paintRun out p e
  · rfl

theorem opp_eq_black (c : Color) : decide (opp c = .black) = !decide (c = .black) := by cases c <;> rfl

/-- The walk over the elements from column `p` on: up to `WIDTH` a column has the colour of its run, which flips at
each element passed. -/
theorem packedPixel_assemble {width : Int} {line : List Int} {p : Nat} {out : List Byte} (c : Color)
    (hline : ∀ e ∈ line, (p : Int) ≤ e ∧ e < width) (hsorted : line.Pairwise (· < ·))
    (hroom : width.toNat ≤ 8 * out.length) (y : Nat) :
    packedPixel (assemble (line ++ [width]) c p out) y =
      ((decide (p ≤ y ∧ y < width.toNat) && (decide (c = .black) ^^ linePixel line y)) || packedPixel out y) := by
  induction line generalizing p c out with
  | nil =>
    rw [List.nil_append, assemble, assemble, packedPixel_runOfColor c p hroom]
    simp [linePixel]
  | cons e line ih =>
    obtain ⟨hright, hsorted⟩ := List.pairwise_cons.1 hsorted
    obtain ⟨hlow, hhigh⟩ := hline e List.mem_cons_self
    have htail : ∀ f ∈ line, (e.toNat : Int) ≤ f ∧ f < width := fun f hf =>
      ⟨by have := hright f hf; omega, (hline f (List.mem_cons_of_mem e hf)).2⟩
    rw [List.cons_append, assemble, ih (opp c) htail hsorted (by rwa [length_runOfColor]),
      packedPixel_runOfColor c p (by omega), opp_eq_black, linePixel_cons]
    by_cases hpast : e ≤ (y : Int)
    · have hafter : (e.toNat ≤ y ∧ y < width.toNat) ↔ (p ≤ y ∧ y < width.toNat) := by omega
      have hnot : ¬ (p ≤ y ∧ y < e.toNat) := by omega
      simp only [hafter, hnot, hpast, decide_true, decide_false, Bool.false_and, Bool.false_or, Bool.true_xor,
        Bool.not_xor, Bool.xor_not]
    · have hbefore : (p ≤ y ∧ y < width.toNat) ↔ (p ≤ y ∧ y < e.toNat) := by omega
      have hnot : ¬ (e.toNat ≤ y ∧ y < width.toNat) := by omega
      have hwhite : linePixel line y = false := linePixel_of_right fun f hf => by have := hright f hf; omega
      simp only [hbefore, hnot, hpast, hwhite, decide_false, Bool.false_and, Bool.false_or, Bool.xor_false]

theorem packedPixel_replicate_zero (n x : Nat) : packedPixel (List.replicate n 0) x = false := by
  rw [packedPixel, List.getD_eq_getElem?_getD, List.getElem?_replicate]
  split <;> exact BitVec.getLsbD_zero

theorem width_le_rowBytes (width : Int) : width.toNat ≤ 8 * rowBytes width := by
  unfold rowBytes
  omega

/-- A packed row holds the pixels of its line, and 0 beyond them (43_rows_and_raster.md R260, 20_memory.md R65). -/
theorem packedPixel_fromChangingElements {width : Int} {line : List Int} (h : LineOk width line) (x : Nat) :
    packedPixel (fromChangingElements line width) x = (decide (x < width.toNat) && linePixel line x) := by
  rw [fromChangingElements, packedPixel_assemble .white (by simpa using h.1) h.2
    (by rw [List.length_replicate]; exact width_le_rowBytes width), packedPixel_replicate_zero]
  simp

/-- Settles O38, from the pixels of a packed row. -/
theorem packedRowPixels : Obligations.PackedRowPixels := by
  intro width line hwidth hline
  refine ⟨length_fromChangingElements line width, fun x hx => ?_, fun x hx _ => ?_⟩
  · have hcolumn : x < width.toNat := by omega
    rw [packedPixel_fromChangingElements hline, decide_eq_true hcolumn, Bool.true_and]
  · rw [packedPixel_fromChangingElements hline, decide_eq_false (Nat.not_lt.2 hx), Bool.false_and]

/-! ### Scanning -/

theorem scanRow_congr {row row' : List Byte} {xs : List Nat} (prev : Bool)
    (h : ∀ x ∈ xs, packedPixel row x = packedPixel row' x) : scanRow row xs prev = scanRow row' xs prev := by
  induction xs generalizing prev with
  | nil => rfl
  | cons x xs ih =>
    have hrest := fun q => ih q fun x' hx' => h x' (List.mem_cons_of_mem x hx')
    simp only [scanRow, h x List.mem_cons_self, hrest]

/-- A scan lists scanned columns only. -/
theorem mem_of_mem_scanRow {row : List Byte} {xs : List Nat} {prev : Bool} {e : Int} (h : e ∈ scanRow row xs prev) :
    ∃ x ∈ xs, (x : Int) = e :=
  List.mem_map.1 ((scanRow_sublist row xs prev).subset h)

/-- The scanned line flips where the pixel before it, at first `prev`, differs. -/
theorem linePixel_scanRow {row : List Byte} {xs : List Nat} (hxs : xs.Pairwise (· < ·)) (prev : Bool) {y : Nat}
    (hy : y ∈ xs) : linePixel (scanRow row xs prev) y = (prev ^^ packedPixel row y) := by
  induction xs generalizing prev with
  | nil => cases hy
  | cons x xs ih =>
    obtain ⟨hright, hsorted⟩ := List.pairwise_cons.1 hxs
    have hhere (q : Bool) : linePixel (scanRow row xs q) x = false := linePixel_of_right fun e he => by
      obtain ⟨z, hz, rfl⟩ := mem_of_mem_scanRow he
      exact Int.ofNat_lt.2 (hright z hz)
    unfold scanRow
    split
    next hsame =>
      rcases List.mem_cons.1 hy with rfl | hy
      · simp [hhere, hsame]
      · exact ih hsorted prev hy
    next hflip =>
      have hprev : packedPixel row x = !prev := Bool.eq_not_of_ne hflip
      rcases List.mem_cons.1 hy with rfl | hy
      · simp [linePixel_cons, hhere, hprev]
      · have hle : (x : Int) ≤ y := Int.ofNat_le.2 (Nat.le_of_lt (hright y hy))
        simp [linePixel_cons, ih hsorted _ hy, hprev, hle]

/-- Scanning columns that hold the pixels of a line, after a pixel `prev`, gives the line. -/
theorem scanRow_eq_line {row : List Byte} {p n : Nat} {prev : Bool} {line : List Int}
    (hline : ∀ e ∈ line, (p : Int) ≤ e ∧ e < ((p + n : Nat) : Int)) (hsorted : line.Pairwise (· < ·))
    (hpixels : ∀ x, p ≤ x → x < p + n → packedPixel row x = (prev ^^ linePixel line x)) :
    scanRow row (List.range' p n) prev = line := by
  induction n generalizing p prev line with
  | zero =>
    symm
    refine List.eq_nil_iff_forall_not_mem.2 fun e he => ?_
    have := hline e he
    omega
  | succ n ih =>
    have hhere := hpixels p (Nat.le_refl p) (by omega)
    rw [List.range'_succ, scanRow]
    by_cases hstart : (p : Int) ∈ line
    · obtain ⟨rest, rfl⟩ : ∃ rest, line = (p : Int) :: rest := by
        cases line with
        | nil => cases hstart
        | cons e rest =>
          have hlow := (hline e List.mem_cons_self).1
          rcases List.mem_cons.1 hstart with rfl | hrest
          · exact ⟨rest, rfl⟩
          · exact absurd ((List.pairwise_cons.1 hsorted).1 _ hrest) (not_lt.2 hlow)
      obtain ⟨hright, hsorted⟩ := List.pairwise_cons.1 hsorted
      rw [linePixel_cons, linePixel_of_right hright] at hhere
      have hflip : packedPixel row p = !prev := by simpa using hhere
      have hrest : scanRow row (List.range' (p + 1) n) (packedPixel row p) = rest := by
        refine ih (fun e he => ?_) hsorted fun x hlow hhigh => ?_
        · have hlow := hright e he
          have hhigh := (hline e (List.mem_cons_of_mem _ he)).2
          omega
        · have hle : (p : Int) ≤ x := by omega
          rw [hpixels x (by omega) (by omega), linePixel_cons, hflip]
          simp [hle]
      rw [if_neg (by simp [hflip]), hrest]
    · have hright : ∀ e ∈ line, (p : Int) < e := fun e he =>
        lt_of_le_of_ne (hline e he).1 fun heq => hstart (heq ▸ he)
      rw [linePixel_of_right hright, Bool.xor_false] at hhere
      rw [if_pos hhere]
      refine ih (fun e he => ?_) hsorted fun x hlow hhigh => hpixels x (by omega) (by omega)
      have hlow := hright e he
      have hhigh := (hline e he).2
      omega

/-- The scanned line has the pixels of the row. -/
theorem linePixel_toChangingElements {row : List Byte} {width : Int} {x : Nat} (hx : x < width.toNat) :
    linePixel (toChangingElements row width) x = packedPixel row x := by
  rw [toChangingElements, linePixel_scanRow List.pairwise_lt_range false (List.mem_range.2 hx), Bool.false_xor]

theorem packedPixel_from_toChangingElements (row : List Byte) (width : Int) (x : Nat) :
    packedPixel (fromChangingElements (toChangingElements row width) width) x =
      (decide (x < width.toNat) && packedPixel row x) := by
  rw [packedPixel_fromChangingElements (toChangingElements_lineOk row width)]
  by_cases hx : x < width.toNat
  · rw [linePixel_toChangingElements hx]
  · simp [hx]

/-- A row is its pixels. -/
theorem row_ext {row row' : List Byte} (hlen : row.length = row'.length)
    (h : ∀ x, x < 8 * row.length → packedPixel row x = packedPixel row' x) : row = row' := by
  refine List.ext_getElem hlen fun j hj hj' => BitVec.eq_of_getLsbD_eq fun i hi => ?_
  have hbyte : (8 * j + (7 - i)) / 8 = j := by omega
  have hbit : 7 - (8 * j + (7 - i)) % 8 = i := by omega
  have hpixel := h (8 * j + (7 - i)) (by omega)
  rwa [packedPixel, packedPixel, hbyte, hbit, List.getD_eq_getElem _ _ hj, List.getD_eq_getElem _ _ hj'] at hpixel

/-- Settles O39: a line and a row are each determined by their pixels, and packing and scanning keep those. -/
theorem rasterAssemblyInverts : Obligations.RasterAssemblyInverts := by
  refine ⟨fun width line hwidth hline => ?_, fun width row hwidth hlen hpad => ?_,
    fun width row => toChangingElements_lineOk row width,
    fun width row row' h => scanRow_congr false fun x hx => h x (List.mem_range.1 hx),
    fun width row hwidth x hx => ?_⟩
  · rw [toChangingElements, List.range_eq_range']
    refine scanRow_eq_line (fun e he => ?_) hline.2 fun x _ hx => ?_
    · have := hline.1 e he
      omega
    · rw [packedPixel_fromChangingElements hline, decide_eq_true (by omega), Bool.true_and, Bool.false_xor]
  · refine row_ext (by rw [length_fromChangingElements, hlen]) fun x hx => ?_
    rw [length_fromChangingElements, ← hlen] at hx
    rw [packedPixel_from_toChangingElements]
    by_cases hcolumn : x < width.toNat
    · simp [hcolumn]
    · simp [hcolumn, hpad x (Nat.not_lt.1 hcolumn) hx]
  · rw [packedPixel_from_toChangingElements, decide_eq_true hx, Bool.true_and]

end Sys2Proof.Machine
end

section
/-!
PROOFS. The edges of a call and of a row: the start of a call, `ROW_START` with and without framing, `ROW_END`, and
the end of a one-dimensional run (43_rows_and_raster.md R250 to R256, R262, 44_encoder.md R290).
-/

namespace Sys2Proof.Machine

/-! ### The start of a call -/

theorem step_of_decompress {s : State} (hstage : s.stage = .idle) (hcall : s.call = .decompress) :
    step s = .next s.startDecompress := by
  simp only [step, fetch, hstage, fetchIdle, hcall]

theorem legalGeometry_iff {width height : Int} : legalGeometry width height = true ↔ 0 < width ∧ 0 < height := by
  simp [legalGeometry]

theorem startDecompress_of_legal {s : State} (h : legalGeometry s.width s.height = true) :
    s.startDecompress = { s.freshCall with ras := [], stage := .rowStart } :=
  if_pos h

theorem startDecompress_of_illegal {s : State} (h : ¬ legalGeometry s.width s.height = true) :
    s.startDecompress = ({ s.freshCall with ras := [] } : State).raise .invalidGeometry none :=
  if_neg h

theorem step_of_compress_illegal {s : State} (hstage : s.stage = .idle) (hcall : s.call = .compress)
    (h : ¬ legalGeometry s.width s.height = true) : step s = .next (s.freshCall.raise .invalidGeometry none) := by
  simp only [step, fetch, hstage, fetchIdle, hcall, State.startCompress, if_neg h, EncodeOut.fetched]

theorem step_of_compress_legal {s : State} (hstage : s.stage = .idle) (hcall : s.call = .compress)
    (h : legalGeometry s.width s.height = true)
    (hras : s.ras.holdsExactly (s.height.toNat * rowBytes s.width) = true) :
    step s = .next { s.freshCall with stage := .busy } := by
  simp only [step, fetch, hstage, fetchIdle, hcall, State.startCompress, if_pos h, if_pos hras, EncodeOut.fetched]

theorem step_of_compress_length {s : State} (hstage : s.stage = .idle) (hcall : s.call = .compress)
    (h : legalGeometry s.width s.height = true)
    (hras : ¬ s.ras.holdsExactly (s.height.toNat * rowBytes s.width) = true) :
    step s = .refused .rasterLength := by
  simp only [step, fetch, hstage, fetchIdle, hcall, State.startCompress, if_pos h, if_neg hras, EncodeOut.fetched]

/-- Settles O40: the geometry is tested first, then the raster's length; `freshCall` holds the reset values. -/
theorem startOfCall : Obligations.StartOfCall := by
  intro s hstage
  refine ⟨fun hcall hbad => ?_, fun hwidth hheight => ?_⟩
  · have hgeo : ¬ legalGeometry s.width s.height = true := by
      rw [legalGeometry_iff]
      omega
    rcases hcall with hcall | hcall
    · refine ⟨_, step_of_decompress hstage hcall, ?_⟩
      rw [startDecompress_of_illegal hgeo]
      exact ⟨rfl, rfl, rfl, rfl, rfl, rfl, fun h => by simp [hcall] at h⟩
    · refine ⟨_, step_of_compress_illegal hstage hcall hgeo, rfl, rfl, rfl, rfl, rfl, rfl, fun _ => ?_⟩
      simp [hcall]
  · have hgeo := legalGeometry_iff.2 ⟨hwidth, hheight⟩
    refine ⟨fun hcall => ?_, fun hcall hras => ?_, fun hcall hras => ?_⟩
    · refine ⟨_, step_of_decompress hstage hcall, ?_⟩
      rw [startDecompress_of_legal hgeo]
      exact ⟨rfl, rfl, rfl, rfl, rfl, rfl, rfl, rfl, rfl⟩
    · exact ⟨_, step_of_compress_legal hstage hcall hgeo (Memory.holdsExactly_iff.2 hras),
        rfl, rfl, rfl, rfl, rfl, rfl, rfl, rfl, rfl, rfl⟩
    · exact step_of_compress_length hstage hcall hgeo fun h => hras (Memory.holdsExactly_iff.1 h)

/-! ### The start of a row -/

theorem step_of_rowStart_unframed {s : State} (hstage : s.stage = .rowStart) (hmixed : s.mixed = false)
    (htag : s.eolSeen = false) : step s = .next { s.beginRow with stage := .readMode } := by
  simp only [step, fetch, hstage, fetchRowStart, htag, hmixed, Bool.false_eq_true, if_false]

/-- Settles O36. -/
theorem rowStartWithoutFraming : Obligations.RowStartWithoutFraming := fun _ hstage hmixed htag =>
  step_of_rowStart_unframed hstage hmixed htag

theorem context_eol {s : State} (hstage : s.stage = .rowStart) (hmixed : s.mixed = true) (htag : s.eolSeen = false) :
    s.context = some .eol := by
  simp [State.context, hstage, htag, hmixed]

theorem context_tag {s : State} (hstage : s.stage = .rowStart) (htag : s.eolSeen = true) : s.context = some .tag := by
  simp [State.context, hstage, htag]

theorem exec_eol_rowStart {s : State} (hstage : s.stage = .rowStart) (hmixed : s.mixed = true)
    (htag : s.eolSeen = false) : exec .eol s = .next { s with eolSeen := true } :=
  if_pos ⟨hstage, hmixed, htag⟩

theorem exec_tag0_rowStart {s : State} (hstage : s.stage = .rowStart) (hmixed : s.mixed = true)
    (htag : s.eolSeen = true) : exec .tag0 s = .next { s with stage := .readMode, eolSeen := false } :=
  if_pos ⟨hstage, hmixed, htag⟩

theorem exec_tag1_rowStart {s : State} (hstage : s.stage = .rowStart) (hmixed : s.mixed = true)
    (htag : s.eolSeen = true) : exec .tag1 s = .next { s with stage := .oneD, a0 := 0, eolSeen := false } :=
  if_pos ⟨hstage, hmixed, htag⟩

theorem beginRow_cursorOk {s : State} (h : CursorOk s) : CursorOk s.beginRow :=
  cursorOk_of_eq (s := { s with rd := s.beginRow.rd }) rfl rfl rfl ((beginRow_readsTo s).keeps_ok h)

/-- Where the upcoming bits begin with a word of the context in force, the step runs that word just after its bits. -/
theorem step_of_upcoming_word {s : State} {ctx : Context} {i : Instr} {rest : Bits} (hctx : s.context = some ctx)
    (hs : CursorOk s.beforeWord) (hsrc : SrcLoaded s.beforeWord) (hi : i ∈ tableOf ctx)
    (hbits : s.beforeWord.upcoming = encode i ++ rest) :
    ∃ c : Cursor, c.bitPos = s.beforeWord.rd.bitPos + (encode i).length ∧
      step s = exec i { s.beforeWord with rd := c } := by
  have hfetch := fetchReadsUpcomingWord ctx s.beforeWord hs hsrc
  rw [hbits, decode_encode_append hi] at hfetch
  obtain ⟨c, hread, -, -, hpos⟩ := hfetch
  exact ⟨c, hpos, step_of_word hctx hread⟩

/-- The twelve bits of the marker begin a long enough string exactly where they are its first twelve. -/
theorem eol_prefix_iff {bits : Bits} : encode .eol <+: bits ↔ bits.take 12 = List.replicate 11 false ++ [true] := by
  rw [List.prefix_iff_eq_take, eq_comm]
  rfl

/-- The marker of a framed row: cut short, not the marker, accepted. -/
theorem framed_rowStart_reads_eol {s : State} (hstage : s.stage = .rowStart) (hmixed : s.mixed = true)
    (htag : s.eolSeen = false) (hs : CursorOk s) (hsrc : SrcLoaded s) :
    (s.beginRow.upcoming.length < 12 →
      ∃ t, step s = .next t ∧ t.stage = .failed ∧ t.err = .decompressionError) ∧
    (12 ≤ s.beginRow.upcoming.length → ¬ encode .eol <+: s.beginRow.upcoming →
      ∃ t, step s = .next t ∧ t.stage = .failed ∧ t.err = .eolError) ∧
    (encode .eol <+: s.beginRow.upcoming →
      ∃ c : Cursor, c.bitPos = s.beginRow.rd.bitPos + 12 ∧
        step s = .next { s.beginRow with rd := c, eolSeen := true }) := by
  have hctx := context_eol hstage hmixed htag
  have hbefore := beforeWord_of_rowStart hstage htag
  have hok : CursorOk s.beforeWord := hbefore ▸ beginRow_cursorOk hs
  have hloaded : SrcLoaded s.beforeWord := hbefore ▸ hsrc
  rw [← hbefore]
  refine ⟨fun hshort => ?_, fun hlong hother => ?_, fun ⟨rest, hrest⟩ => ?_⟩
  · have hnone : ∀ i ∈ tableOf .eol, ¬ encode i <+: s.beforeWord.upcoming := fun i hi hpre => by
      have hlen := hpre.length_le
      have hword := (length_encode_of_mem i hi).1
      exact absurd hshort (Nat.not_lt.2 (hword.trans hlen))
    obtain ⟨c, hstep⟩ := step_of_cut_short hctx hok hloaded hshort hnone
    exact ⟨_, hstep, rfl, rfl⟩
  · have hrej : ∃ w ∈ rejected .eol, w <+: s.beforeWord.upcoming := by
      by_contra hrej
      obtain ⟨i, hi, hpre⟩ := (row_prefix_iff (ctx := .eol) hlong).2 hrej
      obtain rfl : i = .eol := by simpa [tableOf] using hi
      exact hother hpre
    obtain ⟨c, hstep, -⟩ := step_of_rejected hctx hok hloaded hlong hrej
    exact ⟨_, hstep, rfl, rfl⟩
  · obtain ⟨c, hpos, hstep⟩ := step_of_upcoming_word hctx hok hloaded (List.mem_singleton_self _) hrest.symm
    rw [hbefore] at hstep ⊢
    exact ⟨c, hbefore ▸ hpos, hstep.trans (exec_eol_rowStart hstage hmixed htag)⟩

/-- The word of a tag bit (30_encoding.md R106). -/
def tagWord (b : Bool) : Instr := if b then .tag1 else .tag0

theorem tagWord_mem (b : Bool) : tagWord b ∈ tableOf .tag := by cases b <;> decide

theorem encode_tagWord (b : Bool) : encode (tagWord b) = [b] := by cases b <;> rfl

/-- With a bit left, the step after the marker runs the word of that bit. -/
theorem step_of_tagBit {s : State} {b : Bool} {rest : Bits} (hstage : s.stage = .rowStart) (htag : s.eolSeen = true)
    (hs : CursorOk s) (hsrc : SrcLoaded s) (hbits : s.upcoming = b :: rest) :
    ∃ c : Cursor, c.bitPos = s.rd.bitPos + 1 ∧ step s = exec (tagWord b) { s with rd := c } := by
  have hbefore := beforeWord_of_eolSeen htag
  have hword : s.beforeWord.upcoming = encode (tagWord b) ++ rest := by rw [hbefore, hbits, encode_tagWord]; rfl
  have hread := step_of_upcoming_word (context_tag hstage htag) (hbefore.symm ▸ hs) (hbefore.symm ▸ hsrc)
    (tagWord_mem b) hword
  rwa [hbefore, encode_tagWord] at hread

/-- The tag bit of a framed row: one-dimensional, two-dimensional, missing. -/
theorem framed_rowStart_reads_tag {s : State} (hstage : s.stage = .rowStart) (hmixed : s.mixed = true)
    (htag : s.eolSeen = true) (hs : CursorOk s) (hsrc : SrcLoaded s) :
    (∀ rest, s.upcoming = true :: rest →
      ∃ c : Cursor, c.bitPos = s.rd.bitPos + 1 ∧
        step s = .next { s with rd := c, stage := .oneD, a0 := 0, eolSeen := false }) ∧
    (∀ rest, s.upcoming = false :: rest →
      ∃ c : Cursor, c.bitPos = s.rd.bitPos + 1 ∧
        step s = .next { s with rd := c, stage := .readMode, eolSeen := false }) ∧
    (s.upcoming = [] → ∃ t, step s = .next t ∧ t.stage = .failed ∧ t.err = .decompressionError) := by
  have hctx := context_tag hstage htag
  have hbefore := beforeWord_of_eolSeen htag
  have hok : CursorOk s.beforeWord := hbefore.symm ▸ hs
  have hloaded : SrcLoaded s.beforeWord := hbefore.symm ▸ hsrc
  refine ⟨fun rest hbits => ?_, fun rest hbits => ?_, fun hnil => ?_⟩
  · obtain ⟨c, hpos, hstep⟩ := step_of_tagBit hstage htag hs hsrc hbits
    exact ⟨c, hpos, hstep.trans (exec_tag1_rowStart hstage hmixed htag)⟩
  · obtain ⟨c, hpos, hstep⟩ := step_of_tagBit hstage htag hs hsrc hbits
    exact ⟨c, hpos, hstep.trans (exec_tag0_rowStart hstage hmixed htag)⟩
  · rw [← hbefore] at hnil
    obtain ⟨c, hstep⟩ := step_of_cut_short hctx hok hloaded (by rw [hnil]; decide) (by rw [hnil]; decide)
    exact ⟨_, hstep, rfl, rfl⟩

/-- Settles O10: the marker, the tag bit, and the words' own meanings. -/
theorem rowFraming : Obligations.RowFraming := by
  refine ⟨fun s hstage hmixed htag hs hsrc => ?_, fun s => framed_rowStart_reads_tag,
    fun s => exec_eol_rowStart,
    fun s hstage hmixed htag => ⟨exec_tag0_rowStart hstage hmixed htag, exec_tag1_rowStart hstage hmixed htag⟩⟩
  obtain ⟨hshort, hother, hmarker⟩ := framed_rowStart_reads_eol hstage hmixed htag hs hsrc
  exact ⟨hshort, fun hlong hne => hother hlong fun hpre => hne (eol_prefix_iff.1 hpre),
    fun _ heq => hmarker (eol_prefix_iff.2 heq)⟩

/-! ### The end of a row -/

theorem step_of_rowEnd {s : State} (h : s.stage = .rowEnd) : step s = .next s.endRow := by
  simp only [step, fetch, h]

/-- Settles O37: the packed line has `ROWBYTES` bytes, and writing it leaves every other address as it is. -/
theorem endOfRow : Obligations.EndOfRow := by
  intro s hstage
  have hlen := length_fromChangingElements s.cur s.width
  refine ⟨_, step_of_rowEnd hstage, fun j hj => ?_, fun a ha => ?_⟩
  · rw [← hlen] at hj
    refine ⟨_, List.getElem?_eq_getElem hj, ?_⟩
    rw [Memory.read_writeBytes_inside _ _ _ hj, List.getElem?_eq_getElem hj]
  · exact Memory.read_writeBytes_outside _ _ _ (by rwa [hlen])

/-! ### The end of a one-dimensional run -/

section FinishOneD
variable {s : State} {n : Nat} {e : Int} (he : e = s.a0 + n)
include he

/-- A total beyond `WIDTH` and an element that repeats a column are raised. -/
theorem finishOneD_failed (h : s.width < e ∨ (e ≠ s.width ∧ s.cur.getLast? = some e)) :
    (s.finishOneD n).stage = .failed ∧ (s.finishOneD n).err = .decompressionError := by
  rcases s.finishOneD_cases n with ⟨_, heq⟩ | ⟨line, hrec, hhigh, -⟩
  · exact heq ▸ ⟨rfl, rfl⟩
  · rw [← he] at hrec hhigh
    rcases h with hover | ⟨hne, hlast⟩
    · exact absurd hover (not_lt.2 hhigh)
    · rcases record_some hrec with ⟨heq, -⟩ | ⟨-, hright, -⟩
      · exact absurd heq hne
      · exact absurd (hright e hlast) (lt_irrefl e)

theorem finishOneD_of_record {line : List Int} (hrec : record s.width s.cur e = some line) (hhigh : e ≤ s.width) :
    s.finishOneD n = { s.flipColor with cur := line, a0 := e, stage := nextStageOneD s.width e, tot := 0 } := by
  simp only [State.finishOneD, ← he, hhigh.not_gt, hrec, if_false]

end FinishOneD

/-- Where the sentinel is not stored, an element that does not repeat the last column is recorded. -/
theorem record_of_not_repeated {width e : Int} {cur : List Int} (hcur : ∀ x ∈ cur, x ≤ e)
    (h : e = width ∨ cur.getLast? ≠ some e) :
    record width cur e = some (if e = width then cur else cur ++ [e]) := by
  rcases h with rfl | hne
  · simp [record]
  · exact record_of_right fun l hl =>
      lt_of_le_of_ne (hcur l (List.mem_of_getLast? hl)) fun heq => hne (heq ▸ hl)

/-- Settles O33: the word ends the run, which starts at `a0`, at or right of every recorded element. -/
theorem terminatingWordInOneDRow : Obligations.TerminatingWordInOneDRow := by
  rintro s c i n e hstage rfl hi hv hn he hcur
  have hrun : s.runColor = some s.color := by simp [State.runColor, hstage]
  rw [exec_terminatingWord hrun hi hv hn, State.finishRun_oneD _ hstage]
  refine ⟨fun hbad => ⟨_, rfl, finishOneD_failed he hbad⟩, fun hhigh hnew => ?_⟩
  have hright : ∀ x ∈ s.cur, x ≤ e := fun x hx => by
    have := hcur x hx
    omega
  exact congrArg Host.Outcome.next (finishOneD_of_record he (record_of_not_repeated hright hnew) hhigh)

end Sys2Proof.Machine
end

section
/-!
PROOFS. Where a step goes, and that a running call always has one (43_rows_and_raster.md R270, R271).
-/

namespace Sys2Proof.Machine

/-! ### The transition table -/

theorem nextStage_mem {width a0 : Int} {stages : List Stage} (hend : .rowEnd ∈ stages) (hmore : .readMode ∈ stages) :
    nextStage width a0 ∈ stages := by
  rcases nextStage_cases width a0 with ⟨-, h⟩ | ⟨-, h⟩ <;> rwa [h]

theorem nextStageOneD_mem {width a0 : Int} {stages : List Stage} (hend : .rowEnd ∈ stages) (hmore : .oneD ∈ stages) :
    nextStageOneD width a0 ∈ stages := by
  rcases nextStageOneD_cases width a0 with ⟨-, h⟩ | ⟨-, h⟩ <;> rwa [h]

/-- In a well-formed state the `PASS` step does not stall (42_mode_codes.md R211). -/
theorem passAction_of_callOk {s : State} (hs : CallOk s) (hstage : s.stage = .pass) :
    s.passAction = { s with a0 := s.b2, stage := nextStage s.width s.b2 } := by
  rcases s.passAction_cases with ⟨hstall, -⟩ | ⟨-, heq⟩
  · exact absurd (hs.pass_target hstage).1 (not_lt.2 hstall)
  · exact heq

/-- A step goes where the table says, if the `PASS` step does not fail. -/
theorem StepCase.follows {s t : State} (h : StepCase s t) (hpass : s.stage = .pass → t.stage ≠ .failed) :
    t.stage ∈ s.stage.followers := by
  cases h with
  | startDecompress hg | startCompress hg | badGeometry hg | rowBegun hg | tag0Read hg | tag1Read hg | horizLatched hg
  | passLatched hg | vertLatched hg | lastRowEncoded hg => simp [hg, Stage.followers]
  | command hg | eolRead hg | firstRunEnded hg | rowLoaded hg | rowEncoded hg => simp [hg, Stage.followers]
  | choiceEncoded hg => simp [State.encodeStep_eq, hg, Stage.followers, State.latchEncoder]
  | wordRaised hctx =>
    rcases context_cases hctx with ⟨-, hg⟩ | ⟨_, -, -, hg | hg⟩ | ⟨-, hg, -⟩ | ⟨-, hg, -⟩ <;>
      simp [hg, Stage.followers]
  | actionRaised hg =>
    rcases hg with hg | hg
    · exact absurd rfl (hpass hg)
    · simp [hg, Stage.followers]
  | runGrown hg => rcases hg with hg | hg <;> simp [hg, Stage.followers]
  | passDone hg | vertDone hg | horizDone hg => exact hg ▸ nextStage_mem (by decide) (by decide)
  | oneDDone hg => exact hg ▸ nextStageOneD_mem (by decide) (by decide)
  | rowEnded hg =>
    rw [hg, State.endRow_stage]
    split <;> simp [Stage.followers]

/-- Settles O52, over what a step can do; a well-formed `PASS` step completes. -/
theorem stagesFollowTable : Obligations.StagesFollowTable := by
  intro s t hs hstep
  refine (stepCase_of_step hstep).follows fun hstage => ?_
  rw [step_of_pass hstage, exec_p_pass hstage, passAction_of_callOk hs hstage] at hstep
  cases hstep
  exact nextStage_ne (by simp) (by simp)

/-! ### Reading a code word never gets stuck -/

/-- A loaded source gives a bit or ends. -/
theorem nextBit_ne_absent {s : State} (hsrc : SrcLoaded s) : s.nextBit ≠ .absent := by
  rw [State.nextBit, Cursor.readBits_one, Cursor.subByteRead, Cursor.takeField]
  by_cases hempty : s.rd.rem = 0
  · by_cases hend : s.srcLen ≤ s.rd.bytesRead
    · simp [hempty, hend]
    · obtain ⟨b, hb⟩ := Option.isSome_iff_exists.1 (hsrc s.rd.bytesRead (Nat.lt_of_not_le hend))
      simp [hempty, hend, hb, Cursor.takeField]
  · have hpending : ¬ s.rd.rem < 1 := by omega
    simp [hempty, hpending]

theorem decodeLoop_ne_absent {σ : Type} {next : σ → NextBit σ} {P : σ → Prop}
    (hkeep : ∀ s b s', next s = .bit b s' → P s → P s') (hbit : ∀ s, P s → next s ≠ .absent) (ctx : Context) (n : Nat)
    (code : Bits) {s : σ} (hs : P s) : decodeLoop next ctx n code s ≠ .absent := by
  induction n generalizing code s with
  | zero => simp [decodeLoop]
  | succ n ih =>
    cases hnext : next s with
    | absent => exact absurd hnext (hbit s hs)
    | endOfStream => simp [decodeLoop_of_end hnext]
    | bit b s' =>
      cases hmatch : matchRow ctx (code ++ [b]) with
      | some i => simp [decodeLoop_of_match hnext hmatch]
      | none =>
        rw [decodeLoop_of_no_match hnext hmatch]
        exact ih (code ++ [b]) (hkeep s b s' hnext hs)

theorem nextBit_keeps_srcLoaded {s s' : State} {b : Bool} (h : s.nextBit = .bit b s') (hs : SrcLoaded s) :
    SrcLoaded s' := by
  obtain ⟨c, rfl, -⟩ := nextBit_readsTo h
  exact hs

/-- Fetching from a loaded source gives a word or fails the call. -/
theorem fetchWord_of_loaded (ctx : Context) {s : State} (hsrc : SrcLoaded s) :
    (∃ i s', fetchWord ctx s = .run i s') ∨ ∃ t, fetchWord ctx s = .go t := by
  rcases fetchWord_cases ctx s with ⟨i, s', -, hf⟩ | ⟨s', -, hf⟩ | ⟨s', -, hf⟩ | ⟨hd, -⟩
  · exact .inl ⟨i, s', hf⟩
  · exact .inr ⟨_, hf⟩
  · exact .inr ⟨_, hf⟩
  · exact absurd hd (decodeLoop_ne_absent (P := SrcLoaded) (fun _ _ _ => nextBit_keeps_srcLoaded)
      (fun _ => nextBit_ne_absent) ctx (maxLen ctx) [] hsrc)

/-- The end of a run reads no bit. -/
theorem State.finishRun_rd (s : State) (n : Nat) : (s.finishRun n).rd = s.rd := by
  unfold State.finishRun
  split
  · rcases s.finishOneD_cases n with ⟨_, heq⟩ | ⟨_, -, -, heq⟩ <;> rw [heq] <;> rfl
  · rfl
  next r _ _ =>
    rcases s.finishHorizontal_cases r n with ⟨_, _, heq⟩ | ⟨_, heq⟩ | ⟨_, _, -, -, -, -, heq⟩ <;> rw [heq] <;> rfl

/-- A word of the context in force has a meaning there, which leaves the cursor just after its bits. -/
theorem exec_of_context {s : State} {ctx : Context} {i : Instr} (c : Cursor) (hctx : s.context = some ctx)
    (hframed : s.eolSeen = true → s.mixed = true) (hi : i ∈ tableOf ctx) :
    ∃ t, exec i { s.beforeWord with rd := c } = .next t ∧ t.rd = c := by
  rcases context_cases hctx with ⟨rfl, hstage⟩ | ⟨color, rfl, hcolor, hstage⟩ | ⟨rfl, hstage, htag, hmixed⟩ |
    ⟨rfl, hstage, htag⟩
  · rw [beforeWord_of_stage (by simp [hstage])]
    have hmode : ({ s with rd := c } : State).stage = .readMode := hstage
    rcases mem_modeWords hi with rfl | rfl | ⟨o, rfl⟩
    · exact ⟨_, exec_h_readMode hmode, rfl⟩
    · exact ⟨_, exec_p_readMode hmode, rfl⟩
    · exact ⟨_, exec_offsetInstr_readMode o hmode, rfl⟩
  · rw [beforeWord_of_run hstage]
    have hrun : ({ s with rd := c } : State).runColor = some color := hcolor
    obtain ⟨n, hn⟩ := Option.isSome_iff_exists.1 (runValue_isSome_of_mem i hi)
    rcases Nat.lt_or_ge n 64 with hterm | hmakeup
    · exact ⟨_, exec_terminatingWord hrun (mem_tableOf_iff.1 hi) hn hterm, State.finishRun_rd _ _⟩
    · exact ⟨_, exec_makeupWord hrun (mem_tableOf_iff.1 hi) hn hmakeup, rfl⟩
  · obtain rfl : i = .eol := by simpa [tableOf] using hi
    rw [beforeWord_of_rowStart hstage htag]
    exact ⟨_, exec_eol_rowStart (s := { s.beginRow with rd := c }) hstage hmixed htag, rfl⟩
  · have hmixed := hframed htag
    rw [beforeWord_of_eolSeen htag]
    have hi : i = .tag0 ∨ i = .tag1 := by simpa [tableOf] using hi
    rcases hi with rfl | rfl
    · exact ⟨_, exec_tag0_rowStart (s := { s with rd := c }) hstage hmixed htag, rfl⟩
    · exact ⟨_, exec_tag1_rowStart (s := { s with rd := c }) hstage hmixed htag, rfl⟩

theorem beforeWord_srcLoaded {s : State} (hs : SrcLoaded s) : SrcLoaded s.beforeWord := by
  unfold State.beforeWord
  split <;> exact hs

/-- A step that reads a code word answers a next state. -/
theorem step_of_context {s : State} {ctx : Context} (hctx : s.context = some ctx) (htemp : TempOk s)
    (hsrc : SrcLoaded s) : ∃ t, step s = .next t := by
  rcases fetchWord_of_loaded ctx (beforeWord_srcLoaded hsrc) with ⟨i, s', hf⟩ | ⟨t, hf⟩
  · obtain ⟨hi, c, rfl, -⟩ := fetchWord_run hf
    obtain ⟨t, hexec, -⟩ := exec_of_context c hctx (fun htag => (htemp.tag_due htag).2) hi
    exact ⟨t, by simp only [step, fetch_of_context hctx, hf, hexec]⟩
  · exact ⟨t, by simp only [step, fetch_of_context hctx, hf]⟩

/-! ### The other steps -/

/-- Every byte of the current row lies below the raster's length. -/
theorem rasterRow_isSome {s : State} (hrow : RowOk s)
    (hras : ∀ a, a < s.height.toNat * rowBytes s.width → (s.ras.read a).isSome) : s.rasterRow.isSome := by
  refine Memory.readBytes_isSome fun j hj => hras _ ?_
  have hlow := hrow.row_low
  calc s.row * rowBytes s.width + j < (s.row + 1) * rowBytes s.width := by rw [Nat.succ_mul]; omega
    _ ≤ s.height.toNat * rowBytes s.width := Nat.mul_le_mul_right _ (by omega)

/-- The busy encoder starts a row, makes a choice or ends a row. -/
theorem step_of_busy {s : State} (hs : CallOk s) (hstage : s.stage = .busy)
    (hras : ∀ a, a < s.height.toNat * rowBytes s.width → (s.ras.read a).isSome) : ∃ t, step s = .next t := by
  have hstep : ∃ t, s.stepEncoder = .state t := by
    unfold State.stepEncoder State.loadRow
    split
    · split <;> exact ⟨_, rfl⟩
    · obtain ⟨bytes, hbytes⟩ := Option.isSome_iff_exists.1 (rasterRow_isSome (hs.rowOk hstage) hras)
      exact ⟨_, by rw [hbytes]⟩
  obtain ⟨t, ht⟩ := hstep
  exact ⟨t, by simp only [step, fetch, hstage, ht, EncodeOut.fetched]⟩

/-- The steps of a running call that read no code word. -/
theorem stage_of_no_context {s : State} (hrun : s.stage.running = true) (hctx : s.context = none) :
    (s.stage = .rowStart ∧ s.mixed = false ∧ s.eolSeen = false) ∨ s.stage = .pass ∨ s.stage = .vert ∨
      s.stage = .rowEnd ∨ s.stage = .busy := by
  cases hstage : s.stage with
  | idle | done | failed => simp [hstage, Stage.running] at hrun
  | readMode | horiz | oneD => simp [State.context, State.runColor, hstage] at hctx
  | pass | vert | rowEnd | busy => simp
  | rowStart =>
    simp only [State.context, hstage] at hctx
    split at hctx
    next => cases hctx
    next htag =>
      split at hctx
      next => cases hctx
      next hmixed => exact .inl ⟨rfl, Bool.eq_false_of_not_eq_true hmixed, Bool.eq_false_of_not_eq_true htag⟩

/-- Settles O53: a step that reads a word of the context in force, or one of the steps that read none. -/
theorem runningCallNeverStuck : Obligations.RunningCallNeverStuck := by
  intro s hs htemp hsrc hras hrun
  cases hctx : s.context with
  | some ctx => exact step_of_context hctx htemp hsrc
  | none =>
    rcases stage_of_no_context hrun hctx with ⟨hstage, hmixed, htag⟩ | hstage | hstage | hstage | hstage
    · exact ⟨_, step_of_rowStart_unframed hstage hmixed htag⟩
    · exact ⟨_, (step_of_pass hstage).trans (exec_p_pass hstage)⟩
    · exact ⟨_, (step_of_vert hstage).trans (exec_offsetInstr_vert s.k hstage)⟩
    · exact ⟨_, step_of_rowEnd hstage⟩
    · exact step_of_busy hs hstage fun a ha => hras a ha hstage

end Sys2Proof.Machine
end

section
/-!
PROOFS. Every `decompress` call ends: each step takes a stream bit, ends a row, or is one of those that wait for
neither and are followed by one that does (43_rows_and_raster.md R271, 42_mode_codes.md R232).
-/

namespace Sys2Proof.Machine

/-! ### What is left of a call -/

/-- The stages whose step may read no bit and end no row. -/
def Stage.waits : Stage → Nat
  | .rowStart | .pass | .vert => 1
  | .idle | .readMode | .horiz | .rowEnd | .oneD | .done | .failed | .busy => 0

theorem Stage.waits_le_one (g : Stage) : g.waits ≤ 1 := by cases g <;> decide

/-- The rows to end and the bits to read bound the steps of a call. -/
def State.stepsLeft (s : State) : Nat := 2 * (s.height.toNat - s.row) + 2 * s.upcoming.length + s.stage.waits

theorem upcoming_length_lt {s t : State} (hs : CursorOk s) (ht : CursorOk t) (hlen : t.srcLen = s.srcLen)
    (h : s.rd.bitPos < t.rd.bitPos) : t.upcoming.length < s.upcoming.length := by
  have hbefore := bitPos_add_length_upcoming hs
  have hafter := bitPos_add_length_upcoming ht
  omega

theorem upcoming_length_le {s t : State} (hlen : t.srcLen = s.srcLen) (h : s.rd.bitPos ≤ t.rd.bitPos) :
    t.upcoming.length ≤ s.upcoming.length := by
  rw [length_upcoming, length_upcoming]
  omega

theorem nextStage_waits (width a0 : Int) : (nextStage width a0).waits = 0 := by
  rcases nextStage_cases width a0 with ⟨-, h⟩ | ⟨-, h⟩ <;> rw [h] <;> rfl

/-! ### A decoder in a call -/

/-- A well-formed state of a `decompress` call. -/
structure DecodeOk (s : State) : Prop where
  call_eq : s.call = .decompress
  call_ok : CallOk s
  ras_ok : RasOk s
  temp_ok : TempOk s
  cursor_ok : CursorOk s
  loaded : SrcLoaded s

theorem srcLoaded_of_sameConfig {s t : State} (h : SameConfig s t) (hs : SrcLoaded s) : SrcLoaded t := by
  unfold SrcLoaded
  rw [h.src, h.srcLen]
  exact hs

theorem DecodeOk.of_step {s t : State} (hs : DecodeOk s) (hstep : step s = .next t) : DecodeOk t := by
  have hcase := stepCase_of_step hstep
  exact ⟨hcase.sameConfig.call.trans hs.call_eq, hcase.keeps_callOk hs.call_ok, hcase.keeps_rasOk hs.ras_ok,
    hcase.keeps_tempOk hs.temp_ok, cursorInvariantKept s t hs.cursor_ok hstep,
    srcLoaded_of_sameConfig hcase.sameConfig hs.loaded⟩

theorem DecodeOk.not_busy {s : State} (hs : DecodeOk s) : s.stage ≠ .busy := fun hstage => by
  have hcall := hs.ras_ok.busy_call hstage
  simp [hs.call_eq] at hcall

theorem decodeOk_decompressCall (src : List Byte) (width height : Int) (fill mixed : Bool) :
    DecodeOk (State.decompressCall src width height fill mixed) where
  call_eq := rfl
  call_ok := callOk_of_idle rfl
  ras_ok := rasOk_of_idle rfl
  temp_ok := tempOk_of_cleared rfl rfl rfl rfl
  cursor_ok := cursorOk_fresh .le rfl
  loaded a ha := by
    have hread : (Memory.ofBytes src).read a = src[a]? := Memory.read_ofBytes ha
    have hsome : (src[a]?).isSome := by rw [List.getElem?_eq_getElem ha]; rfl
    exact hread ▸ hsome

/-! ### Each step leaves less -/

theorem readsTo_beforeWord (s : State) : s.ReadsTo s.beforeWord.rd :=
  readsTo_of_beforeWord s.beforeWord.readsTo_self

theorem beforeWord_cursorOk {s : State} (hs : CursorOk s) : CursorOk s.beforeWord :=
  have hsame := beforeWord_sameConfig s
  cursorOk_of_eq (s := { s with rd := s.beforeWord.rd }) rfl hsame.src hsame.srcLen
    ((readsTo_beforeWord s).keeps_ok hs)

/-- A step that reads a code word takes at least one bit, or fails the call. -/
theorem step_takes_bits {s t : State} {ctx : Context} (hs : DecodeOk s) (hctx : s.context = some ctx)
    (hstep : step s = .next t) : t.stage = .failed ∨ s.rd.bitPos < t.rd.bitPos := by
  have hfetch := fetchReadsUpcomingWord ctx s.beforeWord (beforeWord_cursorOk hs.cursor_ok)
    (beforeWord_srcLoaded hs.loaded)
  cases hdecode : decode ctx s.beforeWord.upcoming with
  | word i rest =>
    simp only [hdecode] at hfetch
    obtain ⟨c, hread, -, -, hpos⟩ := hfetch
    have hi := (decode_word hdecode).1
    obtain ⟨u, hexec, hrd⟩ := exec_of_context c hctx (fun htag => (hs.temp_ok.tag_due htag).2) hi
    rw [step_of_word hctx hread, hexec] at hstep
    cases hstep
    have hbefore := (readsTo_beforeWord s).pos_le hs.cursor_ok
    have hlen := (length_encode_of_mem i hi).1
    have hmin := minLen_pos ctx
    rw [hrd]
    exact .inr (by omega)
  | noRow rest =>
    simp only [hdecode] at hfetch
    obtain ⟨c, hread, -⟩ := hfetch
    rw [step_of_noRow hctx hread] at hstep
    cases hstep
    exact .inl (State.raiseNoRow_stage _ _)
  | truncated rest =>
    simp only [hdecode] at hfetch
    obtain ⟨-, c, hread, -⟩ := hfetch
    rw [step_of_truncated hctx hread] at hstep
    cases hstep
    exact .inl rfl
  | absent => exact absurd hdecode (decode_ne_absent ctx _)

/-- Only a row end counts a row, besides the start of a call and the encoder. -/
theorem StepCase.row_eq {s t : State} (h : StepCase s t) (hidle : s.stage ≠ .idle) (hend : s.stage ≠ .rowEnd)
    (hbusy : s.stage ≠ .busy) : t.row = s.row := by
  cases h with
  | startDecompress hg | startCompress hg | badGeometry hg | command hg => exact absurd hg hidle
  | rowEnded hg => exact absurd hg hend
  | rowLoaded hg | choiceEncoded hg | rowEncoded hg | lastRowEncoded hg => exact absurd hg hbusy
  | wordRaised => unfold State.beforeWord; split <;> rfl
  | _ => rfl

theorem not_idle_of_context {s : State} {ctx : Context} (h : s.context = some ctx) :
    s.stage ≠ .idle ∧ s.stage ≠ .rowEnd := by
  constructor <;> intro hstage <;> simp [State.context, hstage] at h

theorem stepsLeft_lt_of_context {s t : State} {ctx : Context} (hs : DecodeOk s) (hctx : s.context = some ctx)
    (hstep : step s = .next t) : t.stage = .failed ∨ t.stepsLeft < s.stepsLeft := by
  refine (step_takes_bits hs hctx hstep).imp_right fun hpos => ?_
  have hcase := stepCase_of_step hstep
  obtain ⟨hidle, hend⟩ := not_idle_of_context hctx
  have hbits := upcoming_length_lt hs.cursor_ok (hs.of_step hstep).cursor_ok hcase.sameConfig.srcLen hpos
  have hwaits := t.stage.waits_le_one
  unfold State.stepsLeft
  rw [hcase.row_eq hidle hend hs.not_busy, hcase.sameConfig.height]
  omega

/-- A step that was waited for: it takes no bit back and counts no row. -/
theorem stepsLeft_lt_of_waits {s t : State} (hstage : s.stage.waits = 1) (hnext : t.stage.waits = 0)
    (hheight : t.height = s.height) (hrow : t.row = s.row) (hbits : t.upcoming.length ≤ s.upcoming.length) :
    t.stepsLeft < s.stepsLeft := by
  unfold State.stepsLeft
  rw [hheight, hrow]
  omega

theorem endRow_stepsLeft_lt {s : State} (hrow : RowOk s) : s.endRow.stepsLeft < s.stepsLeft := by
  have hlow := hrow.row_low
  have hwaits := s.endRow.stage.waits_le_one
  have hbits : s.endRow.upcoming = s.upcoming := rfl
  unfold State.stepsLeft
  rw [hbits, State.endRow_row, State.endRow_height]
  omega

/-- Every step of a running call fails it or leaves less of it. -/
theorem stepsLeft_lt {s t : State} (hs : DecodeOk s) (hrun : s.stage.running = true) (hstep : step s = .next t) :
    t.stage = .failed ∨ t.stepsLeft < s.stepsLeft := by
  cases hctx : s.context with
  | some ctx => exact stepsLeft_lt_of_context hs hctx hstep
  | none =>
    rcases stage_of_no_context hrun hctx with ⟨hstage, hmixed, htag⟩ | hstage | hstage | hstage | hstage
    · rw [step_of_rowStart_unframed hstage hmixed htag] at hstep
      cases hstep
      exact .inr (stepsLeft_lt_of_waits (by rw [hstage]; rfl) rfl rfl rfl
        (upcoming_length_le rfl ((beginRow_readsTo s).pos_le hs.cursor_ok)))
    · rw [step_of_pass hstage, exec_p_pass hstage, passAction_of_callOk hs.call_ok hstage] at hstep
      cases hstep
      exact .inr (stepsLeft_lt_of_waits (by rw [hstage]; rfl) (nextStage_waits _ _) rfl rfl (le_refl _))
    · rw [step_of_vert hstage, exec_offsetInstr_vert s.k hstage] at hstep
      cases hstep
      rcases s.vertAction_cases s.k with ⟨_, _, heq⟩ | ⟨_, heq⟩ | ⟨_, -, -, -, heq⟩ <;> rw [heq]
      · exact .inl rfl
      · exact .inl rfl
      · exact .inr (stepsLeft_lt_of_waits (by rw [hstage]; rfl) (nextStage_waits _ _) rfl rfl (le_refl _))
    · rw [step_of_rowEnd hstage] at hstep
      cases hstep
      exact .inr (endRow_stepsLeft_lt (hs.call_ok.rowOk hstage))
    · exact absurd hstage hs.not_busy

/-! ### The end of the call -/

theorem run_of_step {s t : State} (h : step s = .next t) (n : Nat) : run (n + 1) s = run n t := by
  rw [run, h]

theorem SameConfig.trans {s t u : State} (h : SameConfig s t) (h' : SameConfig t u) : SameConfig s u :=
  ⟨h'.width.trans h.width, h'.height.trans h.height, h'.fill.trans h.fill, h'.mixed.trans h.mixed, h'.src.trans h.src,
    h'.srcLen.trans h.srcLen, h'.call.trans h.call⟩

theorem sameConfig_refl (s : State) : SameConfig s s := ⟨rfl, rfl, rfl, rfl, rfl, rfl, rfl⟩

theorem Stage.idle_or_over_or_running (g : Stage) :
    g = .idle ∨ (g = .done ∨ g = .failed) ∨ g.running = true := by
  cases g <;> decide

/-- A running call never goes back to `IDLE`. -/
theorem Stage.followers_ne_idle {g : Stage} (h : g.running = true) : Stage.idle ∉ g.followers := by
  revert h
  cases g <;> decide

/-- Once begun, a call is over after finitely many steps. -/
theorem decode_ends {s : State} (hs : DecodeOk s) (hbegun : s.stage ≠ .idle) :
    ∃ n t, run n s = .next t ∧ t.over ∧ DecodeOk t ∧ SameConfig s t := by
  induction hleft : s.stepsLeft using Nat.strong_induction_on generalizing s with
  | _ left ih =>
    subst hleft
    rcases s.stage.idle_or_over_or_running with hidle | hover | hrun
    · exact absurd hidle hbegun
    · exact ⟨0, s, rfl, hover, hs, sameConfig_refl s⟩
    · obtain ⟨t, hstep⟩ := runningCallNeverStuck s hs.call_ok hs.temp_ok hs.loaded
        (fun _ _ hbusy => absurd hbusy hs.not_busy) hrun
      have ht := hs.of_step hstep
      have hsame := (stepCase_of_step hstep).sameConfig
      rcases stepsLeft_lt hs hrun hstep with hfailed | hless
      · exact ⟨1, t, run_of_step hstep 0, .inr hfailed, ht, hsame⟩
      · have htable := stagesFollowTable s t hs.call_ok hstep
        have hidle : t.stage ≠ .idle := fun h => Stage.followers_ne_idle hrun (h ▸ htable)
        obtain ⟨n, u, hrest, hover, hu, hsame'⟩ := ih _ hless ht hidle rfl
        exact ⟨n + 1, u, (run_of_step hstep n).trans hrest, hover, hu, hsame.trans hsame'⟩

theorem startDecompress_ne_idle (s : State) : s.startDecompress.stage ≠ .idle := by
  unfold State.startDecompress
  split <;> simp

/-- Settles O54: the call begins, then every step leaves less of it; the invariants say what `RAS` holds in `DONE`. -/
theorem everyDecompressEnds : Obligations.EveryDecompressEnds := by
  intro src width height fill mixed
  have hstart := decodeOk_decompressCall src width height fill mixed
  have hstep := step_of_decompress (s := State.decompressCall src width height fill mixed) rfl rfl
  obtain ⟨n, t, hrest, hover, ht, hsame⟩ := decode_ends (hstart.of_step hstep) (startDecompress_ne_idle _)
  have hsame := (stepCase_of_step hstep).sameConfig.trans hsame
  refine ⟨n + 1, t, (run_of_step hstep n).trans hrest, hover, fun hdone => ?_⟩
  have hras := ras_of_done ht.call_ok ht.ras_ok ht.call_eq hdone
  rwa [hsame.width, hsame.height] at hras

end Sys2Proof.Machine
end

section
/-!
PROOFS. One transition of the spec as a run of steps (43_rows_and_raster.md R270). A whole run is followed word by
word: the machine keeps the length so far in `tot` and the first run of a Horizontal in `r1`, where the spec's
`decodeRun` keeps them beside the state (assumption 1).
-/

namespace Sys2Proof.Machine

/-! ### Bit sources with more in their state -/

/-- The same bit, with the source after it seen through `f`. -/
def NextBit.map {σ τ : Type} (f : σ → τ) : NextBit σ → NextBit τ
  | .bit b s => .bit b (f s)
  | .endOfStream => .endOfStream
  | .absent => .absent

/-- The same reading of a code word, with the source after it seen through `f`. -/
def Decoded.map {σ τ : Type} (f : σ → τ) : Decoded σ → Decoded τ
  | .word i s => .word i (f s)
  | .noRow s => .noRow (f s)
  | .truncated s => .truncated (f s)
  | .absent => .absent

theorem decodeLoop_of_absent {σ : Type} {next : σ → NextBit σ} {ctx : Context} {n : Nat} {code : Bits} {s : σ}
    (hnext : next s = .absent) : decodeLoop next ctx (n + 1) code s = .absent := by
  simp only [decodeLoop, hnext]

/-- What the bit read does not look at, reading a code word does not look at either. -/
theorem decodeLoop_map {σ τ : Type} {next : σ → NextBit σ} {next' : τ → NextBit τ} {f : σ → τ}
    (h : ∀ s, next' (f s) = NextBit.map f (next s)) (ctx : Context) (n : Nat) (code : Bits) (s : σ) :
    decodeLoop next' ctx n code (f s) = Decoded.map f (decodeLoop next ctx n code s) := by
  induction n generalizing code s with
  | zero => rfl
  | succ n ih =>
    have hmap := h s
    cases hnext : next s with
    | bit b s' =>
      rw [hnext] at hmap
      cases hmatch : matchRow ctx (code ++ [b]) with
      | some i => rw [decodeLoop_of_match hnext hmatch, decodeLoop_of_match hmap hmatch]; rfl
      | none => rw [decodeLoop_of_no_match hnext hmatch, decodeLoop_of_no_match hmap hmatch, ih]
    | endOfStream =>
      rw [hnext] at hmap
      rw [decodeLoop_of_end hnext, decodeLoop_of_end hmap]
      rfl
    | absent =>
      rw [hnext] at hmap
      rw [decodeLoop_of_absent hnext, decodeLoop_of_absent hmap]
      rfl

/-- The bit read looks at the cursor and the source alone. -/
theorem nextBit_map {f : State → State} {s : State} (hread : ∀ c : Cursor, f { s with rd := c } = { f s with rd := c })
    (hrd : (f s).rd = s.rd) (hsrc : (f s).src = s.src) (hlen : (f s).srcLen = s.srcLen) :
    (f s).nextBit = NextBit.map f s.nextBit := by
  have hsame : (f s).rd.readBits (f s).src (f s).srcLen 1 = s.rd.readBits s.src s.srcLen 1 := by rw [hrd, hsrc, hlen]
  unfold State.nextBit
  rw [hsame]
  cases s.rd.readBits s.src s.srcLen 1 with
  | value v c => exact congrArg (NextBit.bit (v == 1)) (hread c).symm
  | error k => rfl
  | absent => rfl

/-- A state inside a run, with the length so far and the first run of its Horizontal. -/
def State.inRun (tot : Nat) (first : Option Nat) (s : State) : State := { s with tot := tot, r1 := first }

theorem decodeWith_inRun (ctx : Context) (k : Nat) (r : Option Nat) (s : State) :
    decodeWith State.nextBit ctx (s.inRun k r) = Decoded.map (State.inRun k r) (decodeWith State.nextBit ctx s) :=
  decodeLoop_map (f := State.inRun k r) (fun _ => nextBit_map (fun _ => rfl) rfl rfl rfl) ctx (maxLen ctx) [] s

theorem State.inRun_self {s : State} (htot : s.tot = 0) (hfirst : s.r1 = none) : s.inRun 0 none = s := by
  rw [State.inRun, ← htot, ← hfirst]

/-! ### The bits that a word takes -/

theorem nextBit_bitsLeft {s s' : State} {b : Bool} (h : s.nextBit = .bit b s') : s'.bitsLeft + 1 = s.bitsLeft := by
  obtain ⟨v, c, hread, -, rfl⟩ := State.nextBit_bit h
  unfold State.bitsLeft
  rcases Cursor.subByteRead_value hread with ⟨hpending, -, -, rfl⟩ | ⟨hempty, hmore, b, -, -, -, rfl⟩
  · dsimp only
    omega
  · dsimp only
    omega

theorem decodeLoop_word_bitsLeft {ctx : Context} {n : Nat} {code : Bits} {s s' : State} {i : Instr}
    (h : decodeLoop State.nextBit ctx n code s = .word i s') : s'.bitsLeft < s.bitsLeft := by
  induction n generalizing code s with
  | zero => cases h
  | succ n ih =>
    cases hnext : s.nextBit with
    | bit b u =>
      have hbit := nextBit_bitsLeft hnext
      cases hmatch : matchRow ctx (code ++ [b]) with
      | some j =>
        rw [decodeLoop_of_match hnext hmatch] at h
        cases h
        omega
      | none =>
        rw [decodeLoop_of_no_match hnext hmatch] at h
        have hrest := ih h
        omega
    | endOfStream => rw [decodeLoop_of_end hnext] at h; cases h
    | absent => rw [decodeLoop_of_absent hnext] at h; cases h

theorem decodeWith_word {ctx : Context} {s s' : State} {i : Instr}
    (h : decodeWith State.nextBit ctx s = .word i s') : i ∈ tableOf ctx ∧ ∃ c : Cursor, s' = { s with rd := c } := by
  obtain ⟨hi, c, hc, -⟩ := fetchWord_run (ctx := ctx) (s := s) (s' := s') (i := i) (by simp only [fetchWord, h])
  exact ⟨hi, c, hc⟩

/-! ### Runs of steps -/

theorem run_one (s : State) : run 1 s = step s := by
  unfold run
  cases step s <;> rfl

/-- A run goes on where its first part has led. -/
theorem run_add {s t : State} {m : Nat} (n : Nat) (h : run m s = .next t) : run (m + n) s = run n t := by
  induction m generalizing s with
  | zero => cases h; rw [Nat.zero_add]
  | succ m ih =>
    cases hstep : step s with
    | next u =>
      rw [Nat.succ_add, run_of_step hstep]
      exact ih ((run_of_step hstep m).symm.trans h)
    | fault f => simp [run, hstep] at h
    | refused r => simp [run, hstep] at h

theorem step_of_absent {s : State} {ctx : Context} (hctx : s.context = some ctx)
    (h : decodeWith State.nextBit ctx s.beforeWord = .absent) : step s = .fault .absentByte := by
  simp only [step, fetch_of_context hctx, fetchWord, h]

/-! ### A whole run -/

/-- What the steps that read a run make of it, where `first` is the first run of the Horizontal. -/
def RunOut.finish (first : Option Nat) : RunOut → Result
  | .run n s => .next ((s.inRun 0 first).finishRun n)
  | .raised t => .next t
  | .absent => .fault .absentByte

/-- The end of a run and an error both set the length so far back. -/
theorem finishRun_inRun (s : State) (k : Nat) (r : Option Nat) (n : Nat) :
    (s.inRun k r).finishRun n = (s.inRun 0 r).finishRun n := rfl

theorem raiseNoRow_inRun (s : State) (k : Nat) (r : Option Nat) (c : Color) :
    (s.inRun k r).raiseNoRow (.run c) = s.raiseNoRow (.run c) := rfl

theorem finishHorizontal_inRun (s : State) (k : Nat) (r : Option Nat) (n m : Nat) :
    (s.inRun k r).finishHorizontal n m = s.finishHorizontal n m := rfl

theorem raiseData_inRun (s : State) (k : Nat) (r : Option Nat) (sub : SubCause) :
    (s.inRun k r).raiseData sub = s.raiseData sub := rfl

/-- Read word by word from a length `k` on, a run of `decodeRun` is one or more steps. -/
theorem run_of_decodeRunLoop {c : Color} {r : Option Nat} {fuel k : Nat} {s : State}
    (hcolor : (s.inRun k r).runColor = some c) (hfuel : s.bitsLeft < fuel) :
    ∃ n, run (n + 1) (s.inRun k r) = (decodeRunLoop c fuel k s).finish r := by
  induction fuel generalizing k s with
  | zero => cases hfuel
  | succ fuel ih =>
    have hctx := context_of_runColor hcolor
    have hread := decodeWith_inRun (.run c) k r s
    rw [← beforeWord_of_run (stage_of_runColor hcolor)] at hread
    unfold decodeRunLoop
    cases hd : decodeWith State.nextBit (.run c) s with
    | word i s' =>
      rw [hd] at hread
      have hexec := step_of_word hctx hread
      have hbits := decodeLoop_word_bitsLeft hd
      obtain ⟨hi, cursor, rfl⟩ := decodeWith_word hd
      obtain ⟨v, hv⟩ := Option.isSome_iff_exists.1 (runValue_isSome_of_mem i hi)
      have hwf := mem_tableOf_iff.1 hi
      have hcolor' : (State.inRun k r { s with rd := cursor }).runColor = some c := hcolor
      simp only [hv, Option.getD_some]
      split
      next hterm =>
        refine ⟨0, ?_⟩
        rw [run_one, hexec, exec_terminatingWord hcolor' hwf hv hterm]
        exact congrArg Host.Outcome.next (finishRun_inRun _ k r (k + v))
      next hmakeup =>
        rw [exec_makeupWord hcolor' hwf hv (Nat.not_lt.1 hmakeup)] at hexec
        obtain ⟨n, hn⟩ := ih (k := k + v) (s := { s with rd := cursor }) hcolor' (by omega)
        exact ⟨n + 1, (run_of_step hexec (n + 1)).trans hn⟩
    | noRow s' =>
      rw [hd] at hread
      have hstep := step_of_noRow (s' := s'.inRun k r) hctx hread
      rw [raiseNoRow_inRun] at hstep
      exact ⟨0, (run_one _).trans hstep⟩
    | truncated s' =>
      rw [hd] at hread
      have hstep := step_of_truncated (s' := s'.inRun k r) hctx hread
      rw [raiseData_inRun] at hstep
      exact ⟨0, (run_one _).trans hstep⟩
    | absent =>
      rw [hd] at hread
      exact ⟨0, (run_one _).trans (step_of_absent hctx hread)⟩

theorem run_of_decodeRun {c : Color} {r : Option Nat} {s : State} (hcolor : (s.inRun 0 r).runColor = some c) :
    ∃ n, run (n + 1) (s.inRun 0 r) = (decodeRun c s).finish r :=
  run_of_decodeRunLoop hcolor (Nat.lt_succ_self _)

/-- A run that is decoded moves the cursor and nothing else. -/
theorem decodeRunLoop_run {c : Color} {fuel k n : Nat} {s s' : State} (h : decodeRunLoop c fuel k s = .run n s') :
    ∃ cursor : Cursor, s' = { s with rd := cursor } := by
  induction fuel generalizing k s with
  | zero => cases h
  | succ fuel ih =>
    unfold decodeRunLoop at h
    cases hd : decodeWith State.nextBit (.run c) s with
    | word i u =>
      obtain ⟨-, cursor, rfl⟩ := decodeWith_word hd
      simp only [hd] at h
      split at h
      next => cases h; exact ⟨cursor, rfl⟩
      next =>
        obtain ⟨cursor', rfl⟩ := ih h
        exact ⟨cursor', rfl⟩
    | noRow u => simp [hd] at h
    | truncated u => simp [hd] at h
    | absent => simp [hd] at h

theorem decodeRun_run {c : Color} {n : Nat} {s s' : State} (h : decodeRun c s = .run n s') :
    ∃ cursor : Cursor, s' = { s with rd := cursor } :=
  decodeRunLoop_run h

/-! ### The transitions -/

/-- The whole Horizontal: a first run of the colour, then a second of the other (42_mode_codes.md R219). -/
theorem run_of_horizTransition {s : State} (hs : s.atBoundary) (hstage : s.stage = .horiz) :
    ∃ n, run (n + 1) s = horizTransition s := by
  obtain ⟨htot, hfirst, -⟩ := hs
  obtain ⟨n, hn⟩ := run_of_decodeRun (s := s) (r := none) (runColor_first hstage rfl)
  rw [State.inRun_self htot hfirst] at hn
  unfold horizTransition
  change run (n + 1) s = (decodeRun s.color s).finish none at hn
  cases h1 : decodeRun s.color s with
  | run n1 s1 =>
    obtain ⟨c1, rfl⟩ := decodeRun_run h1
    have hkept : (({ s with rd := c1 } : State).inRun 0 none).finishRun n1 =
        ({ s with rd := c1 } : State).inRun 0 (some n1) := State.finishRun_first n1 hstage rfl
    rw [h1, RunOut.finish, hkept] at hn
    obtain ⟨m, hm⟩ := run_of_decodeRun (s := { s with rd := c1 }) (r := some n1) (runColor_second hstage rfl)
    refine ⟨n + 1 + m, (run_add (m + 1) hn).trans (hm.trans ?_)⟩
    change (decodeRun (opp s.color) { s with rd := c1 }).finish (some n1) = _
    dsimp only
    cases h2 : decodeRun (opp s.color) { s with rd := c1 } with
    | run n2 s2 =>
      obtain ⟨c2, rfl⟩ := decodeRun_run h2
      have hlast := State.finishRun_second (s := State.inRun 0 (some n1) { s with rd := c2 }) n2 hstage rfl
      rw [finishHorizontal_inRun] at hlast
      exact congrArg Host.Outcome.next hlast
    | raised t => rfl
    | absent => rfl
  | raised t => exact ⟨n, by rw [hn, h1]; rfl⟩
  | absent => exact ⟨n, by rw [hn, h1]; rfl⟩

/-- The whole run of a one-dimensional row (43_rows_and_raster.md R256). -/
theorem run_of_oneDTransition {s : State} (hs : s.atBoundary) (hstage : s.stage = .oneD) :
    ∃ n, run (n + 1) s = oneDTransition s := by
  obtain ⟨htot, hfirst, -⟩ := hs
  have hcolor : (s.inRun 0 none).runColor = some s.color := by simp [State.runColor, State.inRun, hstage]
  obtain ⟨n, hn⟩ := run_of_decodeRun hcolor
  rw [State.inRun_self htot hfirst] at hn
  refine ⟨n, hn.trans ?_⟩
  unfold oneDTransition
  cases h1 : decodeRun s.color s with
  | run n1 s1 =>
    obtain ⟨c1, rfl⟩ := decodeRun_run h1
    have hself : ({ s with rd := c1 } : State).inRun 0 none = { s with rd := c1 } := State.inRun_self htot hfirst
    rw [RunOut.finish, hself, State.finishRun_oneD (s := { s with rd := c1 }) n1 hstage]
  | raised t => rfl
  | absent => rfl

theorem matchRow_tag (b : Bool) : matchRow .tag [b] = some (tagWord b) := by cases b <;> rfl

/-- The marker has been read. -/
def State.withEol (s : State) : State := { s with eolSeen := true }

/-- After the marker one step reads the tag bit (43_rows_and_raster.md R253, R255). -/
theorem step_of_tagTransition {s : State} (hstage : s.stage = .rowStart) (hmixed : s.mixed = true) :
    step s.withEol = tagTransition s := by
  have hctx : s.withEol.context = some .tag := context_tag hstage rfl
  have hbefore : s.withEol.beforeWord = s.withEol := beforeWord_of_eolSeen rfl
  have hmap : s.withEol.nextBit = NextBit.map State.withEol s.nextBit := nextBit_map (fun _ => rfl) rfl rfl rfl
  unfold tagTransition
  cases hnext : s.nextBit with
  | bit b s' =>
    rw [hnext] at hmap
    obtain ⟨c, rfl, -⟩ := nextBit_readsTo hnext
    have hread := decodeLoop_of_match (ctx := .tag) (n := 0) (code := []) hmap (matchRow_tag b)
    rw [step_of_word hctx (hbefore.symm ▸ hread)]
    cases b with
    | false => exact exec_tag0_rowStart (s := State.withEol { s with rd := c }) hstage hmixed rfl
    | true => exact exec_tag1_rowStart (s := State.withEol { s with rd := c }) hstage hmixed rfl
  | endOfStream =>
    rw [hnext] at hmap
    have hread := decodeLoop_of_end (ctx := .tag) (n := 0) (code := []) hmap
    exact step_of_truncated (s' := s.withEol) hctx (hbefore.symm ▸ hread)
  | absent =>
    rw [hnext] at hmap
    have hread := decodeLoop_of_absent (ctx := .tag) (n := 0) (code := []) hmap
    exact step_of_absent hctx (hbefore.symm ▸ hread)

/-- A whole row start: one step without framing; with it, the marker and then the tag. -/
theorem run_of_rowStartTransition {s : State} (hs : s.atBoundary) (hstage : s.stage = .rowStart) :
    ∃ n, run (n + 1) s = rowStartTransition s := by
  obtain ⟨-, -, htag⟩ := hs
  unfold rowStartTransition
  cases hmixed : s.mixed with
  | false => exact ⟨0, (run_one s).trans (step_of_rowStart_unframed hstage hmixed htag)⟩
  | true =>
    have hctx := context_eol hstage hmixed htag
    have hbefore := beforeWord_of_rowStart hstage htag
    rw [if_pos rfl]
    cases hd : decodeWith State.nextBit .eol s.beginRow with
    | word i s' =>
      obtain ⟨hi, c, rfl⟩ := decodeWith_word hd
      obtain rfl : i = .eol := by simpa [tableOf] using hi
      have heol := (step_of_word hctx (hbefore.symm ▸ hd)).trans
        (exec_eol_rowStart (s := { s.beginRow with rd := c }) hstage hmixed htag)
      exact ⟨1, (run_of_step heol 1).trans ((run_one _).trans
        (step_of_tagTransition (s := { s.beginRow with rd := c }) hstage hmixed))⟩
    | noRow s' => exact ⟨0, (run_one s).trans (step_of_noRow hctx (hbefore.symm ▸ hd))⟩
    | truncated s' => exact ⟨0, (run_one s).trans (step_of_truncated hctx (hbefore.symm ▸ hd))⟩
    | absent => exact ⟨0, (run_one s).trans (step_of_absent hctx (hbefore.symm ▸ hd))⟩

/-- Settles O55: the row start, the Horizontal and the one-dimensional run are cut into steps; every other transition is
a step. -/
theorem transitionIsRunOfSteps : Obligations.TransitionIsRunOfSteps := by
  intro s hs
  unfold transition
  split
  next hstage => exact run_of_rowStartTransition hs hstage
  next hstage => exact run_of_horizTransition hs hstage
  next hstage => exact run_of_oneDTransition hs hstage
  next => exact ⟨0, run_one s⟩

end Sys2Proof.Machine
end

section
/-!
PROOFS. `encodeRun` and `decodeRun`: the words of a run are makeup words and one terminating word of its colour, and
read one by one they give the run back (44_encoder.md R296, 41_run_codes.md R183).
-/

namespace Sys2Proof.Machine

/-! ### The row of a value -/

/-- The values of the run code words of a colour: the terminating ones, then the multiples of 64 (30_encoding.md R108
to R112). -/
def runValues : List Nat := List.range 64 ++ (List.range' 1 40).map (64 * ·)

theorem map_runValue_runWords (c : Color) : (runWords c).map runValue = runValues.map some := by
  cases c <;> rfl

/-- Every such value has a row in the table of either colour. -/
theorem rowOfValue_of_mem (c : Color) {v : Nat} (hv : v ∈ runValues) :
    ∃ i, rowOfValue (runWords c) v = some i ∧ i ∈ runWords c ∧ runValue i = some v := by
  have hmem : some v ∈ (runWords c).map runValue := by
    rw [map_runValue_runWords]
    exact List.mem_map_of_mem hv
  obtain ⟨j, hj, hjv⟩ := List.mem_map.1 hmem
  have hsome : (rowOfValue (runWords c) v).isSome := List.find?_isSome.2 ⟨j, hj, by simp [hjv]⟩
  obtain ⟨i, hi⟩ := Option.isSome_iff_exists.1 hsome
  exact ⟨i, hi, List.mem_of_find?_eq_some hi, by simpa using List.find?_some hi⟩

theorem mem_runValues_of_lt {v : Nat} (h : v < 64) : v ∈ runValues :=
  List.mem_append_left _ (List.mem_range.2 h)

theorem mem_runValues_of_makeup {k : Nat} (hlow : 1 ≤ k) (hhigh : k ≤ 40) : 64 * k ∈ runValues :=
  List.mem_append_right _ (List.mem_map.2 ⟨k, List.mem_range'_1.2 (by omega), rfl⟩)

theorem xm2560_mem_runWords (c : Color) : Instr.xm2560 ∈ runWords c := by cases c <;> decide

/-! ### What `encodeRun` emits -/

/-- A run of colour `c` and length `n` as its makeup words and its terminating word. -/
structure SplitsRun (c : Color) (n : Nat) (makeups : List Instr) (last : Instr) : Prop where
  makeup_mem : ∀ i ∈ makeups, i ∈ runWords c
  makeup_value : ∀ i ∈ makeups, ∃ v, runValue i = some v ∧ 64 ≤ v
  last_mem : last ∈ runWords c
  last_value : runValue last = some (n % 64)
  sum_eq : (makeups.filterMap runValue).sum + n % 64 = n

theorem splitsRun_short {c : Color} {n : Nat} (h : n < 64) :
    ∃ last, rowOfValue (runWords c) n = some last ∧ SplitsRun c n [] last := by
  obtain ⟨last, hrow, hmem, hvalue⟩ := rowOfValue_of_mem c (mem_runValues_of_lt h)
  have hmod := Nat.mod_eq_of_lt h
  exact ⟨last, hrow, by simp, by simp, hmem, hmod.symm ▸ hvalue, by simp [hmod]⟩

/-- One more makeup word in front of a run that is 64 or more times 64 longer. -/
theorem SplitsRun.cons {c : Color} {n k : Nat} {makeups : List Instr} {i last : Instr}
    (h : SplitsRun c n makeups last) (hi : i ∈ runWords c) (hv : runValue i = some (64 * k)) (hk : 1 ≤ k) :
    SplitsRun c (n + 64 * k) (i :: makeups) last where
  makeup_mem := List.forall_mem_cons.2 ⟨hi, h.makeup_mem⟩
  makeup_value := List.forall_mem_cons.2 ⟨⟨64 * k, hv, by omega⟩, h.makeup_value⟩
  last_mem := h.last_mem
  last_value := by rw [Nat.add_mul_mod_self_left]; exact h.last_value
  sum_eq := by
    have hsum := h.sum_eq
    rw [List.filterMap_cons_some hv, List.sum_cons, Nat.add_mul_mod_self_left]
    omega

theorem encodeRunLoop_splitsRun (c : Color) {fuel n : Nat} (h : n < fuel) :
    ∃ makeups last, encodeRunLoop c fuel n = makeups ++ [last] ∧ SplitsRun c n makeups last := by
  induction fuel generalizing n with
  | zero => cases h
  | succ fuel ih =>
    unfold encodeRunLoop
    split
    next hlong =>
      obtain ⟨makeups, last, hrest, hsplit⟩ := ih (n := n - 2560) (by omega)
      have hwhole := hsplit.cons (k := 40) (xm2560_mem_runWords c) rfl (by decide)
      rw [show n - 2560 + 64 * 40 = n by omega] at hwhole
      exact ⟨.xm2560 :: makeups, last, by rw [hrest, List.cons_append], hwhole⟩
    next hshort =>
      split
      next hmakeup =>
        obtain ⟨i, hrow, hmem, hvalue⟩ :=
          rowOfValue_of_mem c (mem_runValues_of_makeup (k := n / 64) (by omega) (by omega))
        obtain ⟨last, hlast, hsplit⟩ := splitsRun_short (c := c) (n := n % 64) (Nat.mod_lt n (by decide))
        have hwhole := hsplit.cons hmem hvalue (by omega)
        rw [Nat.mod_add_div] at hwhole
        exact ⟨[i], last, by rw [hrow, hlast]; rfl, hwhole⟩
      next hterm =>
        obtain ⟨last, hlast, hsplit⟩ := splitsRun_short (c := c) (n := n) (by omega)
        exact ⟨[], last, by rw [hlast]; rfl, hsplit⟩

theorem encodeRun_splitsRun (c : Color) (n : Nat) :
    ∃ makeups last, encodeRun c n = makeups ++ [last] ∧ SplitsRun c n makeups last :=
  encodeRunLoop_splitsRun c (Nat.lt_succ_self n)

/-- Settles O34: the words are those of `SplitsRun`. -/
theorem encodeRunSplitsExactly : Obligations.EncodeRunSplitsExactly := by
  intro c n
  obtain ⟨makeups, last, hwords, hsplit⟩ := encodeRun_splitsRun c n
  refine ⟨makeups, last, hwords, fun i hi => ?_, hsplit.makeup_value, hsplit.last_value, ?_⟩
  · rw [hwords] at hi
    rcases List.mem_append.1 hi with hi | hi
    · exact mem_tableOf_iff.1 (hsplit.makeup_mem i hi)
    · exact mem_tableOf_iff.1 (List.mem_singleton.1 hi ▸ hsplit.last_mem)
  · rw [hwords, List.filterMap_append, List.sum_append]
    simpa [hsplit.last_value] using hsplit.sum_eq

/-! ### What `decodeRun` reads -/

theorem encodeAll_cons (i : Instr) (is : List Instr) : encodeAll (i :: is) = encode i ++ encodeAll is := rfl

theorem encodeAll_append (is js : List Instr) : encodeAll (is ++ js) = encodeAll is ++ encodeAll js :=
  List.flatMap_append

theorem encodeAll_singleton (i : Instr) : encodeAll [i] = encode i := List.append_nil _

/-- Where the upcoming bits begin with a word of the context, that word is read and the rest is upcoming. -/
theorem decodeWith_upcoming {ctx : Context} {s : State} {i : Instr} {rest : Bits} (hs : CursorOk s)
    (hsrc : SrcLoaded s) (hi : i ∈ tableOf ctx) (hbits : s.upcoming = encode i ++ rest) :
    ∃ c : Cursor, decodeWith State.nextBit ctx s = .word i { s with rd := c } ∧ CursorOk { s with rd := c } ∧
      ({ s with rd := c } : State).upcoming = rest := by
  have hfetch := fetchReadsUpcomingWord ctx s hs hsrc
  rw [hbits, decode_encode_append hi] at hfetch
  obtain ⟨c, hread, hok, hup, -⟩ := hfetch
  exact ⟨c, hread, hok, hup⟩

/-- Makeup words and then a terminating word are read as the sum of their values. -/
theorem decodeRunLoop_upcoming {c : Color} {makeups : List Instr} {last : Instr} {v fuel k : Nat} {s : State}
    {rest : Bits} (hmem : ∀ i ∈ makeups, i ∈ runWords c) (hmakeup : ∀ i ∈ makeups, ∃ v, runValue i = some v ∧ 64 ≤ v)
    (hlast : last ∈ runWords c) (hv : runValue last = some v) (hterm : v < 64) (hs : CursorOk s) (hsrc : SrcLoaded s)
    (hbits : s.upcoming = encodeAll (makeups ++ [last]) ++ rest) (hfuel : s.bitsLeft < fuel) :
    ∃ cur : Cursor, decodeRunLoop c fuel k s = .run (k + ((makeups.filterMap runValue).sum + v)) { s with rd := cur } ∧
      CursorOk { s with rd := cur } ∧ ({ s with rd := cur } : State).upcoming = rest := by
  induction makeups generalizing s fuel k with
  | nil =>
    obtain _ | fuel := fuel
    · cases hfuel
    rw [List.nil_append, encodeAll_singleton] at hbits
    obtain ⟨cur, hread, hok, hup⟩ := decodeWith_upcoming (ctx := .run c) hs hsrc hlast hbits
    refine ⟨cur, ?_, hok, hup⟩
    simp [decodeRunLoop, hread, hv, hterm]
  | cons i makeups ih =>
    obtain _ | fuel := fuel
    · cases hfuel
    obtain ⟨hi, hmem⟩ := List.forall_mem_cons.1 hmem
    obtain ⟨⟨w, hw, hlarge⟩, hmakeup⟩ := List.forall_mem_cons.1 hmakeup
    rw [List.cons_append, encodeAll_cons, List.append_assoc] at hbits
    obtain ⟨cur, hread, hok, hup⟩ := decodeWith_upcoming (ctx := .run c) hs hsrc hi hbits
    have hleft := decodeLoop_word_bitsLeft hread
    obtain ⟨cur', hrest, hok', hup'⟩ :=
      ih (k := k + w) (fuel := fuel) (s := { s with rd := cur }) hmem hmakeup hok hsrc hup (by omega)
    refine ⟨cur', ?_, hok', hup'⟩
    simp only [decodeRunLoop, hread, hw, Option.getD_some, if_neg (Nat.not_lt.2 hlarge), hrest,
      List.filterMap_cons_some hw, List.sum_cons, Nat.add_assoc]

theorem decodeRun_encodeRun {s : State} {c : Color} {n : Nat} {rest : Bits} (hs : CursorOk s) (hsrc : SrcLoaded s)
    (hbits : s.upcoming = encodeAll (encodeRun c n) ++ rest) :
    ∃ cur : Cursor, decodeRun c s = .run n { s with rd := cur } ∧ CursorOk { s with rd := cur } ∧
      ({ s with rd := cur } : State).upcoming = rest := by
  obtain ⟨makeups, last, hwords, hsplit⟩ := encodeRun_splitsRun c n
  rw [hwords] at hbits
  have hloop := decodeRunLoop_upcoming (k := 0) hsplit.makeup_mem hsplit.makeup_value hsplit.last_mem
    hsplit.last_value (Nat.mod_lt n (by decide)) hs hsrc hbits (Nat.lt_succ_self _)
  rwa [hsplit.sum_eq, Nat.zero_add] at hloop

/-- Settles O35: the words that `encodeRun` splits a run into are read back one by one. -/
theorem decodeRunInvertsEncodeRun : Obligations.DecodeRunInvertsEncodeRun := by
  intro s c n rest hs hsrc hbits
  obtain ⟨cur, hrun, hok, hup⟩ := decodeRun_encodeRun hs hsrc hbits
  refine ⟨cur, hrun, hok, hup, bitPos_of_upcoming hs hok ?_⟩
  rw [hup, hbits, List.length_append]

end Sys2Proof.Machine
end

section
/-!
PROOFS. The steps of the encoder: the start and the end of a row, the choice of mode, and how far the coding line has
been passed (44_encoder.md R291 to R301, R306).
-/

namespace Sys2Proof.Machine

/-! ### The steps of a row -/

theorem step_of_rowLoad {s : State} {bytes : List Byte} (hstage : s.stage = .busy) (hopen : s.rowOpen = false)
    (hbytes : s.rasterRow = some bytes) :
    step s = .next { s with
      cur := toChangingElements bytes s.width, a0 := -1, color := .white, rowOpen := true } := by
  simp [step, fetch, hstage, State.stepEncoder, hopen, State.loadRow, hbytes, EncodeOut.fetched]

theorem step_of_choice {s : State} (hstage : s.stage = .busy) (hopen : s.rowOpen = true) (hlow : s.a0 < s.width) :
    step s = .next s.encodeStep := by
  simp [step, fetch, hstage, State.stepEncoder, hopen, hlow, EncodeOut.fetched]

theorem step_of_rowFull {s : State} (hstage : s.stage = .busy) (hopen : s.rowOpen = true) (hfull : s.width ≤ s.a0) :
    step s = .next s.endEncodedRow := by
  simp [step, fetch, hstage, State.stepEncoder, hopen, hfull.not_gt, EncodeOut.fetched]

/-- Settles O57: what the row start and the row end answer. -/
theorem encoderRowEdges : Obligations.EncoderRowEdges := by
  intro s hstage
  refine ⟨fun hopen bytes hbytes => step_of_rowLoad hstage hopen hbytes, fun hopen hfull => ?_⟩
  rw [step_of_rowFull hstage hopen hfull]
  exact ⟨fun hmore => congrArg Host.Outcome.next (if_neg hmore), fun hlast => congrArg Host.Outcome.next (if_pos hlast)⟩

/-! ### The choice of mode -/

theorem offsetOf_eq_some {d : Int} {o : Offset} (h : offsetOf d = some o) : offsetValue o = d := by
  simpa using List.find?_some h

/-- The offsets are the differences from -3 to 3 (44_encoder.md R293). -/
theorem offsetOf_eq_none_iff {d : Int} : offsetOf d = none ↔ d < -3 ∨ 3 < d := by
  simp only [offsetOf, List.find?_eq_none, List.forall_mem_cons, beq_iff_eq, offsetValue, List.not_mem_nil,
    false_imp_iff, implies_true, and_true]
  omega

section Choice
variable {s : State} {b1 b2 a1 a2 : Int} (hb : findB s.width s.ref s.a0 s.color = (b1, b2))
include hb

/-- The step of a choice, with `b1` and `b2` written out. -/
theorem encodeStep_of_choice {choice : Choice} (h : s.choice = choice) : s.encodeStep = { s with
    b1 := b1
    b2 := b2
    wr := s.wr.emit (encodeAll (choice.words s.color s.a0))
    a0 := choice.target
    color := choice.nextColor s.color } := by
  rw [State.encodeStep_eq, h, State.latchEncoder, hb]

variable (ha : findA s.width s.a0 s.cur = (a1, a2))
include ha

theorem choice_of_pass (h : b2 < a1) : s.choice = .pass b2 := by
  simp [State.choice, hb, ha, h]

theorem choice_of_offset {o : Offset} (h : a1 ≤ b2) (ho : offsetOf (a1 - b1) = some o) :
    s.choice = .vertical o a1 := by
  simp [State.choice, hb, ha, h.not_gt, ho]

theorem choice_of_no_offset (h : a1 ≤ b2) (ho : offsetOf (a1 - b1) = none) : s.choice = .horizontal a1 a2 := by
  simp [State.choice, hb, ha, h.not_gt, ho]

end Choice

/-- Settles O56, by the tests in their order. -/
theorem encoderChoosesMode : Obligations.EncoderChoosesMode := by
  intro s b1 b2 a1 a2 hstage hopen hlow hb ha
  rw [step_of_choice hstage hopen hlow]
  refine ⟨fun hpass => ?_, fun hnot hleft hright => ?_, fun hnot hfar => ?_⟩
  · rw [encodeStep_of_choice hb (choice_of_pass hb ha hpass)]
    rfl
  · cases ho : offsetOf (a1 - b1) with
    | none =>
      have hfar := offsetOf_eq_none_iff.1 ho
      omega
    | some o =>
      refine ⟨o, offsetOf_eq_some ho, ?_⟩
      rw [encodeStep_of_choice hb (choice_of_offset hb ha hnot ho), Choice.words, encodeAll_singleton]
      rfl
  · rw [encodeStep_of_choice hb (choice_of_no_offset hb ha hnot (offsetOf_eq_none_iff.2 hfar)), Choice.words,
      encodeAll_cons, encodeAll_append, ← List.append_assoc]
    rfl

/-! ### The elements passed -/

/-- The elements of a line at or left of a column. -/
def elementsUpTo (line : List Int) (a : Int) : List Int := line.filter fun e => decide (e ≤ a)

theorem elementsUpTo_cons_of_le {e a : Int} (line : List Int) (h : e ≤ a) :
    elementsUpTo (e :: line) a = e :: elementsUpTo line a :=
  List.filter_cons_of_pos (by simpa using h)

theorem elementsUpTo_of_right {line : List Int} {a : Int} (h : ∀ e ∈ line, a < e) : elementsUpTo line a = [] :=
  List.filter_eq_nil_iff.2 fun e he => by simpa using h e he

/-- At `WIDTH` the whole line is passed. -/
theorem elementsUpTo_of_full {width a : Int} {line : List Int} (h : LineOk width line) (ha : width ≤ a) :
    elementsUpTo line a = line :=
  List.filter_eq_self.2 fun e he => by simpa using ((h.1 e he).2.le.trans ha)

theorem le_of_mem_elementsUpTo {line : List Int} {a e : Int} (h : e ∈ elementsUpTo line a) : e ≤ a := by
  simpa using (List.mem_filter.1 h).2

theorem getLast?_elementsUpTo_lt {line : List Int} {a b l : Int} (hab : a < b)
    (hl : (elementsUpTo line a).getLast? = some l) : l < b :=
  (le_of_mem_elementsUpTo (List.mem_of_getLast? hl)).trans_lt hab

/-- An element as it is recorded: the sentinel is not stored (42_mode_codes.md R230). -/
def recorded (width e : Int) : List Int := if e = width then [] else [e]

theorem recorded_of_lt {width e : Int} (h : e < width) : recorded width e = [e] := if_neg h.ne

/-- Left of `a1` no further element is passed (44_encoder.md R292). -/
theorem elementsUpTo_of_lt_findA {width a0 a : Int} {line : List Int} (h : LineOk width line) (ha0 : a0 ≤ a)
    (ha : a < (findA width a0 line).1) : elementsUpTo line a = elementsUpTo line a0 := by
  induction line with
  | nil => rfl
  | cons e rest ih =>
    unfold findA at ha
    split at ha
    next hright =>
      have hall : ∀ f ∈ e :: rest, a < f :=
        List.forall_mem_cons.2 ⟨ha, fun f hf => ha.trans ((List.pairwise_cons.1 h.2).1 f hf)⟩
      rw [elementsUpTo_of_right hall, elementsUpTo_of_right fun f hf => ha0.trans_lt (hall f hf)]
    next hleft =>
      have hle := not_lt.1 hleft
      rw [elementsUpTo_cons_of_le rest (hle.trans ha0), elementsUpTo_cons_of_le rest hle, ih (lineOk_tail h) ha]

theorem le_findA {width a0 : Int} (line : List Int) (h : a0 ≤ width) : a0 ≤ (findA width a0 line).1 := by
  induction line with
  | nil => exact h
  | cons e rest ih =>
    unfold findA
    split
    next hright => exact hright.le
    next => exact ih

/-- `a2` is the next changing element after `a1` (44_encoder.md R292). -/
theorem findA_findA {width a0 : Int} {line : List Int} (h : LineOk width line) (ha0 : a0 ≤ width) :
    (findA width (findA width a0 line).1 line).1 = (findA width a0 line).2 := by
  induction line with
  | nil => rfl
  | cons e rest ih =>
    by_cases hright : a0 < e
    · have hstart : findA width a0 (e :: rest) = (e, rest.headD width) := if_pos hright
      rw [hstart, findA, if_neg (lt_irrefl e)]
      cases rest with
      | nil => rfl
      | cons f rest =>
        have hef : e < f := (headD_bounds h).1
        exact congrArg Prod.fst (if_pos hef)
    · have hstart : findA width a0 (e :: rest) = findA width a0 rest := if_neg hright
      have hpast : ¬ (findA width a0 rest).1 < e := by
        have := le_findA rest ha0
        omega
      rw [hstart, findA, if_neg hpast, ih (lineOk_tail h)]

/-- At `a1` one more element is passed, unless it is the sentinel. -/
theorem elementsUpTo_findA {width a0 : Int} {line : List Int} (h : LineOk width line) (ha0 : a0 ≤ width) :
    elementsUpTo line (findA width a0 line).1 = elementsUpTo line a0 ++ recorded width (findA width a0 line).1 := by
  induction line with
  | nil => simp [findA, elementsUpTo, recorded]
  | cons e rest ih =>
    obtain ⟨hsorted, -⟩ := List.pairwise_cons.1 h.2
    by_cases hright : a0 < e
    · have hstart : findA width a0 (e :: rest) = (e, rest.headD width) := if_pos hright
      have hnone : elementsUpTo (e :: rest) a0 = [] :=
        elementsUpTo_of_right (List.forall_mem_cons.2 ⟨hright, fun f hf => hright.trans (hsorted f hf)⟩)
      rw [hstart, hnone, elementsUpTo_cons_of_le rest (le_refl e), elementsUpTo_of_right hsorted,
        recorded_of_lt (h.1 e List.mem_cons_self).2, List.nil_append]
    · have hstart : findA width a0 (e :: rest) = findA width a0 rest := if_neg hright
      have hle := not_lt.1 hright
      rw [hstart, elementsUpTo_cons_of_le rest (hle.trans (le_findA rest ha0)), elementsUpTo_cons_of_le rest hle,
        ih (lineOk_tail h), List.cons_append]

/-- What a choice of the encoder passes, as the decoder records it: nothing in a Pass, `a1` in a Vertical, `a1` and
`a2` in a Horizontal. -/
def Choice.passed (width : Int) : Choice → List Int
  | .pass _ => []
  | .vertical _ a1 => recorded width a1
  | .horizontal a1 a2 => recorded width a1 ++ recorded width a2

theorem elementsUpTo_target {s : State} (hs : RowOk s) (hlow : s.a0 < s.width) :
    elementsUpTo s.cur s.choice.target = elementsUpTo s.cur s.a0 ++ s.choice.passed s.width := by
  have hline := hs.cur_line
  rcases s.choice_cases with ⟨hpass, heq⟩ | ⟨o, -, heq⟩ | ⟨-, heq⟩
  · have hleft := (choice_target_bounds hs hlow).1
    rw [heq] at hleft ⊢
    exact (elementsUpTo_of_lt_findA hline hleft.le hpass).trans (List.append_nil _).symm
  · rw [heq]
    exact elementsUpTo_findA hline hlow.le
  · obtain ⟨-, ha12, ha2⟩ := findA_bounds hline hlow
    have hsecond := elementsUpTo_findA hline (ha12.trans ha2)
    rw [findA_findA hline hlow.le, elementsUpTo_findA hline hlow.le, List.append_assoc] at hsecond
    rw [heq]
    exact hsecond

/-- Until the row is full, a Vertical passes one element and flips the colour; the others pass none or two and keep
it. -/
theorem parity_passed {s : State} (hs : RowOk s) (hlow : s.a0 < s.width) (hmore : s.choice.target < s.width)
    (h : (elementsUpTo s.cur s.a0).length % 2 = colorBit s.color) :
    (elementsUpTo s.cur s.choice.target).length % 2 = colorBit (s.choice.nextColor s.color) := by
  rw [elementsUpTo_target hs hlow, List.length_append]
  have hflip : (colorBit s.color + 1) % 2 = colorBit (opp s.color) := by cases s.color <;> rfl
  rcases s.choice_cases with ⟨-, heq⟩ | ⟨o, -, heq⟩ | ⟨-, heq⟩ <;> rw [heq] at hmore ⊢
  · exact h
  · have hone := recorded_of_lt (e := (findA s.width s.a0 s.cur).1) hmore
    rw [Choice.passed, hone, List.length_singleton, Choice.nextColor]
    omega
  · have ha12 := (findA_bounds hs.cur_line hlow).2.1
    have hone := recorded_of_lt (ha12.trans_lt hmore)
    have htwo := recorded_of_lt (e := (findA s.width s.a0 s.cur).2) hmore
    rw [Choice.passed, hone, htwo]
    exact (Nat.add_mod_right _ 2).trans h

/-- Settles O58: a choice moves `a0` right, and its colour follows the elements it passes. -/
theorem encoderStepAdvances : Obligations.EncoderStepAdvances := by
  intro s hstage hopen hs hlow
  obtain ⟨hleft, hright⟩ := choice_target_bounds hs hlow
  refine ⟨s.encodeStep, step_of_choice hstage hopen hlow, ?_⟩
  rw [State.encodeStep_eq]
  exact ⟨hleft, hright, fun hparity hmore => parity_passed hs hlow hmore hparity⟩

end Sys2Proof.Machine
end

section
/-!
PROOFS. Lock step: a decoder at the encoder's position reads the words of the encoder's choice and comes to the
position to which the encoder advances (44_encoder.md R298, R304).
-/

namespace Sys2Proof.Machine

/-! ### A decoder and what it reads -/

/-- A decoder between its steps, with exactly these bits to read. -/
structure State.Reads (d : State) (bits : Bits) : Prop where
  temp_ok : TempOk d
  cursor_ok : CursorOk d
  loaded : SrcLoaded d
  upcoming_eq : d.upcoming = bits

/-- A mode word that is read is run just after its bits. -/
theorem step_of_modeWord {d : State} {i : Instr} {rest : Bits} (hstage : d.stage = .readMode) (hi : i ∈ modeWords)
    (hd : d.Reads (encode i ++ rest)) :
    ∃ c : Cursor, step d = exec i { d with rd := c } ∧ CursorOk { d with rd := c } ∧
      ({ d with rd := c } : State).upcoming = rest := by
  have hctx : d.context = some .mode := by simp [State.context, hstage]
  have hbefore : d.beforeWord = d := beforeWord_of_stage (by simp [hstage])
  obtain ⟨c, hread, hok, hup⟩ := decodeWith_upcoming (ctx := .mode) hd.cursor_ok hd.loaded hi hd.upcoming_eq
  exact ⟨c, step_of_word hctx (hbefore.symm ▸ hread), hok, hup⟩

/-! ### The decoder follows one choice -/

/-- The decoder after the words of a choice: it has latched `b1` and `b2`, recorded what the choice passes, and moved
on to its column and colour. -/
def State.afterChoice (d : State) (choice : Choice) (c : Cursor) (k : Offset) : State :=
  { d.latchB with
    rd := c
    k := k
    cur := d.cur ++ choice.passed d.width
    a0 := choice.target
    color := choice.nextColor d.color
    stage := nextStage d.width choice.target }

/-- The decoder follows a choice: in some steps, over exactly the bits before `rest`. -/
def State.Follows (d : State) (choice : Choice) (rest : Bits) : Prop :=
  ∃ (n : Nat) (c : Cursor) (k : Offset), run n d = .next (d.afterChoice choice c k) ∧ CursorOk { d with rd := c } ∧
    ({ d with rd := c } : State).upcoming = rest

theorem passAction_of_lt {s : State} (h : s.a0 < s.b2) :
    s.passAction = { s with a0 := s.b2, stage := nextStage s.width s.b2 } :=
  if_neg (by simpa [stalled] using h)

/-- Both runs of a Horizontal are read, and their lengths end it (42_mode_codes.md R219). -/
theorem horizTransition_upcoming {s : State} {n m : Nat} {rest : Bits} (hs : CursorOk s) (hsrc : SrcLoaded s)
    (hbits : s.upcoming = encodeAll (encodeRun s.color n) ++ (encodeAll (encodeRun (opp s.color) m) ++ rest)) :
    ∃ c : Cursor, horizTransition s = .next (({ s with rd := c } : State).finishHorizontal n m) ∧
      CursorOk { s with rd := c } ∧ ({ s with rd := c } : State).upcoming = rest := by
  obtain ⟨c1, hread1, hok1, hup1⟩ := decodeRun_encodeRun hs hsrc hbits
  obtain ⟨c2, hread2, hok2, hup2⟩ := decodeRun_encodeRun (s := { s with rd := c1 }) hok1 hsrc hup1
  exact ⟨c2, by simp only [horizTransition, hread1, hread2], hok2, hup2⟩

section Follows
variable {d : State} {rest : Bits} (hstage : d.stage = .readMode)
include hstage

theorem follows_pass (hd : d.Reads (encode .p ++ rest)) (hlow : d.a0 < (findB d.width d.ref d.a0 d.color).2) :
    d.Follows (.pass (findB d.width d.ref d.a0 d.color).2) rest := by
  obtain ⟨c, hstep, hok, hup⟩ := step_of_modeWord hstage (by decide) hd
  rw [exec_p_readMode (s := { d with rd := c }) hstage] at hstep
  refine ⟨2, c, d.k, (run_of_step hstep 1).trans ?_, hok, hup⟩
  rw [run_one, step_of_pass rfl, exec_p_pass rfl, passAction_of_lt hlow, State.afterChoice, Choice.passed,
    List.append_nil]
  rfl

theorem follows_vertical {o : Offset} {a1 : Int} (hd : d.Reads (encode (offsetInstr o) ++ rest))
    (ho : offsetValue o = a1 - (findB d.width d.ref d.a0 d.color).1) (hlow : d.a0 < a1) (hhigh : a1 ≤ d.width)
    (hcur : ∀ l, d.cur.getLast? = some l → l < a1) : d.Follows (.vertical o a1) rest := by
  have hi : offsetInstr o ∈ modeWords := by cases o <;> decide
  obtain ⟨c, hstep, hok, hup⟩ := step_of_modeWord hstage hi hd
  rw [exec_offsetInstr_readMode (s := { d with rd := c }) o hstage] at hstep
  have hcolumn : (findB d.width d.ref d.a0 d.color).1 + offsetValue o = a1 := by omega
  refine ⟨2, c, o, (run_of_step hstep 1).trans ?_, hok, hup⟩
  rw [run_one, step_of_vert rfl, exec_offsetInstr_vert _ rfl]
  subst hcolumn
  exact congrArg Host.Outcome.next (vertAction_of_record (record_append_of_right hcur) hlow hhigh)

/-- A Horizontal whose mode word has been read, with the cursor at `c`. -/
def State.horizLatched (d : State) (c : Cursor) : State :=
  { d.latchB with rd := c, stage := .horiz, tot := 0, r1 := none }

theorem follows_horizontal {a1 a2 : Int}
    (hd : d.Reads (encodeAll (Choice.words d.color d.a0 (.horizontal a1 a2)) ++ rest)) (hleft : -1 ≤ d.a0)
    (hlow : d.a0 < a1) (ha12 : a1 ≤ a2) (hnew : a1 ≠ d.width → a1 < a2) (hhigh : a2 ≤ d.width)
    (hcur : ∀ l, d.cur.getLast? = some l → l < a1) : d.Follows (.horizontal a1 a2) rest := by
  have htot := hd.temp_ok.tot_zero (by simp [hstage]) (by simp [hstage])
  have hfirst := hd.temp_ok.first_run (by simp [hstage])
  have htag := hd.temp_ok.eolSeen_eq (by simp [hstage])
  rw [Choice.words, encodeAll_cons, encodeAll_append, List.append_assoc, List.append_assoc] at hd
  obtain ⟨c, hstep, hok, hup⟩ := step_of_modeWord hstage (by decide) hd
  rw [exec_h_readMode (s := { d with rd := c }) hstage] at hstep
  obtain ⟨c2, htransition, hok2, hup2⟩ := horizTransition_upcoming (s := d.horizLatched c)
    (cursorOk_of_eq (s := { d with rd := c }) rfl rfl rfl hok) hd.loaded hup
  obtain ⟨n, hrun⟩ := run_of_horizTransition (s := d.horizLatched c) ⟨rfl, rfl, htag⟩ rfl
  have hstart : startColumn d.a0 ≤ a1 := max_le hlow.le (by omega)
  have hrec1 := record_append_of_right (width := d.width) hcur
  have hrec2 := record_append_of_right (width := d.width) (getLast?_lt_of_recorded hcur ha12 hnew)
  have hfinish := finishHorizontal_of_records (s := d.horizLatched c2) (r := (a1 - startColumn d.a0).toNat)
    (n := (a2 - a1).toNat) (show a1 = startColumn d.a0 + _ by omega) (by omega) hrec1 hrec2
    (show d.a0 < a2 by omega) hhigh
  refine ⟨n + 2, c2, d.k, (run_of_step hstep (n + 1)).trans (hrun.trans (htransition.trans ?_)),
    cursorOk_of_eq (s := d.horizLatched c2) rfl rfl rfl hok2, hup2⟩
  refine congrArg Host.Outcome.next (hfinish.trans ?_)
  rw [State.afterChoice, Choice.passed, ← List.append_assoc]
  simp only [State.horizLatched, ← htot, ← hfirst]
  rfl

end Follows

/-! ### Lock step -/

/-- The decoder stands where the encoder stands in the row: it has recorded what the encoder has passed
(44_encoder.md R298). -/
structure InStep (e d : State) : Prop where
  width_eq : d.width = e.width
  ref_eq : d.ref = e.ref
  a0_eq : d.a0 = e.a0
  color_eq : d.color = e.color
  cur_eq : d.cur = elementsUpTo e.cur e.a0

/-- In the same row of the same call, with the same raster. -/
structure SameRow (s t : State) : Prop extends SameConfig s t where
  ref : t.ref = s.ref
  row : t.row = s.row
  ras : t.ras = s.ras

theorem SameRow.trans {s t u : State} (h : SameRow s t) (h' : SameRow t u) : SameRow s u :=
  ⟨h.toSameConfig.trans h'.toSameConfig, h'.ref.trans h.ref, h'.row.trans h.row, h'.ras.trans h.ras⟩

theorem sameRow_refl (s : State) : SameRow s s := ⟨sameConfig_refl s, rfl, rfl, rfl⟩

/-- `a1` lies left of `a2`, unless it is the sentinel (44_encoder.md R292). -/
theorem findA_lt {width a0 : Int} {line : List Int} (h : LineOk width line) (ha0 : a0 < width)
    (hne : (findA width a0 line).1 ≠ width) : (findA width a0 line).1 < (findA width a0 line).2 := by
  obtain ⟨-, ha12, ha2⟩ := findA_bounds h ha0
  have hnext := (findA_bounds h (lt_of_le_of_ne (ha12.trans ha2) hne)).1
  rwa [findA_findA h ha0.le] at hnext

/-- A decoder in step with the encoder follows its choice. -/
theorem follows_choice {e d : State} {rest : Bits} (he : RowOk e) (hlow : e.a0 < e.width) (hsame : InStep e d)
    (hstage : d.stage = .readMode) (hd : d.Reads (encodeAll (e.choice.words e.color e.a0) ++ rest)) :
    d.Follows e.choice rest := by
  obtain ⟨hwidth, href, ha0, hcolor, hcur⟩ := hsame
  obtain ⟨ha1, ha12, ha2⟩ := findA_bounds he.cur_line hlow
  have hright (l : Int) (hl : d.cur.getLast? = some l) : l < (findA e.width e.a0 e.cur).1 :=
    getLast?_elementsUpTo_lt ha1 (hcur ▸ hl)
  have hfindB : findB d.width d.ref d.a0 d.color = findB e.width e.ref e.a0 e.color := by
    rw [hwidth, href, ha0, hcolor]
  rcases e.choice_cases with ⟨hpass, heq⟩ | ⟨o, ho, heq⟩ | ⟨ho, heq⟩ <;> rw [heq] at hd ⊢
  · rw [Choice.words, encodeAll_singleton] at hd
    obtain ⟨hb1, hb12, -⟩ := findB_bounds e.color he.ref_line hlow
    rw [← hfindB]
    exact follows_pass hstage hd (by rw [hfindB, ha0]; exact hb1.trans_le hb12)
  · rw [Choice.words, encodeAll_singleton] at hd
    exact follows_vertical hstage hd (by rw [hfindB]; exact offsetOf_eq_some ho) (ha0 ▸ ha1)
      (hwidth ▸ ha12.trans ha2) hright
  · exact follows_horizontal hstage (by rwa [hcolor, ha0]) (ha0 ▸ he.a0_low) (ha0 ▸ ha1) ha12
      (fun hne => findA_lt he.cur_line hlow (hwidth ▸ hne)) (hwidth ▸ ha2) hright

theorem afterChoice_inStep {e d : State} (he : RowOk e) (hlow : e.a0 < e.width) (hsame : InStep e d) (c : Cursor)
    (k : Offset) : InStep e.encodeStep (d.afterChoice e.choice c k) := by
  obtain ⟨hwidth, href, ha0, hcolor, hcur⟩ := hsame
  have hpassed := elementsUpTo_target he hlow
  rw [← hcur, ← hwidth] at hpassed
  rw [State.encodeStep_eq]
  exact ⟨hwidth, href, rfl, congrArg e.choice.nextColor hcolor, hpassed.symm⟩

/-- In some steps a decoder in step with the encoder reads the words of its choice and is in step again. -/
theorem lockStep {e d : State} {rest : Bits} (he : RowOk e) (hlow : e.a0 < e.width) (hsame : InStep e d)
    (hstage : d.stage = .readMode) (hd : d.Reads (encodeAll (e.choice.words e.color e.a0) ++ rest)) :
    ∃ n d', run n d = .next d' ∧ InStep e.encodeStep d' ∧ d'.Reads rest ∧ SameRow d d' ∧
      d'.stage = nextStage d.width d'.a0 := by
  obtain ⟨n, c, k, hrun, hok, hup⟩ := follows_choice he hlow hsame hstage hd
  have htemp : TempOk (d.afterChoice e.choice c k) :=
    tempOk_of_cleared (hd.temp_ok.tot_zero (by simp [hstage]) (by simp [hstage]))
      (hd.temp_ok.first_run (by simp [hstage])) (hd.temp_ok.eolSeen_eq (by simp [hstage]))
      (hd.temp_ok.rowOpen_eq (by simp [hstage]))
  have hreads : (d.afterChoice e.choice c k).Reads rest :=
    ⟨htemp, cursorOk_of_eq (s := { d with rd := c }) rfl rfl rfl hok, hd.loaded, hup⟩
  exact ⟨n, _, hrun, afterChoice_inStep he hlow hsame c k, hreads, ⟨by constructor <;> rfl, rfl, rfl, rfl⟩, rfl⟩

/-- Settles O59: the choice that the encoder makes is the one that the decoder follows (`lockStep`). -/
theorem encoderLockStep : Obligations.EncoderLockStep := by
  intro e d rest he hlow hstage htemp hok hsrc hwidth href ha0 hcolor hcur hup
  obtain ⟨n, d', hrun, hsame, hreads, hrow, hnext⟩ :=
    lockStep he hlow ⟨hwidth, href, ha0, hcolor, hcur⟩ hstage ⟨htemp, hok, hsrc, hup⟩
  have hleft : e.a0 < e.encodeStep.a0 := by
    rw [State.encodeStep_eq]
    exact (choice_target_bounds he hlow).1
  have hline : e.encodeStep.cur = e.cur := by rw [State.encodeStep_eq]; rfl
  have hrecorded := hsame.cur_eq
  rw [hline, ← hsame.a0_eq] at hrecorded
  exact ⟨n, d', hrun, hsame.a0_eq ▸ hleft, hsame.a0_eq, hsame.color_eq, hrecorded, hrow.ref.trans href, hrow.row,
    hnext, hreads.temp_ok, hreads.cursor_ok, hreads.upcoming_eq⟩

end Sys2Proof.Machine
end

section
/-!
PROOFS. The stream between two rows: the bits of a pad and the flush that skips them (44_encoder.md R300, R301,
43_rows_and_raster.md R251).
-/

namespace Sys2Proof.Machine

theorem BitWriter.length_written (w : BitWriter) : w.written.length = 8 * w.sinkLen + w.cnt := by
  simp [BitWriter.written]

theorem BitWriter.written_of_empty {w : BitWriter} (h : w.cnt = 0) :
    w.written = (List.range (8 * w.sinkLen)).map (streamBit w.sink) := by
  simp [BitWriter.written, h]

/-- A pad appends fewer than eight bits and leaves no byte begun (40_bitcursor.md R155). -/
theorem BitWriter.written_pad {w : BitWriter} (hw : WriterOk w) :
    w.pad.cnt = 0 ∧ ∃ gap : Bits, gap.length < 8 ∧ w.pad.written = w.written ++ gap := by
  rcases Nat.eq_zero_or_pos w.cnt with hempty | hpending
  · rw [BitWriter.pad_of_empty hempty]
    exact ⟨hempty, [], by simp, by simp⟩
  · have hcnt := hw.cnt_small
    have hbyte : List.range 8 = List.range w.cnt ++ List.range' w.cnt (8 - w.cnt) := by
      rw [List.range_eq_range', List.range_eq_range', show 8 = w.cnt + (8 - w.cnt) by omega, ← List.range'_append]
      simp
    refine ⟨by rw [BitWriter.pad_of_pending hpending]; rfl,
      (List.range' w.cnt (8 - w.cnt)).map (byteBit w.acc), by simp; omega, ?_⟩
    have hfull := BitWriter.written_completeByte (w := { w with cnt := 8 }) rfl
    rw [BitWriter.pad_of_pending hpending]
    refine hfull.trans ?_
    rw [BitWriter.written, BitWriter.written, hbyte, List.map_append, List.append_assoc]

/-- A cursor `k` bits further on has `k` bits fewer to read. -/
theorem upcoming_of_advanced {s : State} {c : Cursor} {k : Nat} (h : c.bitPos = s.rd.bitPos + k) :
    ({ s with rd := c } : State).upcoming = s.upcoming.drop k := by
  rw [State.upcoming, State.upcoming, ← List.map_drop, List.drop_range', Nat.mul_one, ← h,
    show 8 * s.srcLen - s.rd.bitPos - k = 8 * s.srcLen - c.bitPos by omega]

/-- A flush skips the bits up to the next byte boundary of the source (40_bitcursor.md R148). -/
theorem upcoming_flush {s : State} {gap bits : Bits} (hs : CursorOk s) (hup : s.upcoming = gap ++ bits)
    (hgap : gap.length < 8) (hbits : bits.length % 8 = 0) :
    ({ s with rd := s.rd.flush } : State).upcoming = bits := by
  have hpos := bitPos_add_length_upcoming hs
  have hflush := flush_bitPos hs
  rw [hup, List.length_append] at hpos
  rw [upcoming_of_advanced (k := gap.length) (by omega), hup, List.drop_left]

/-- What may stand between two rows: where rows are byte aligned, the bits of a pad, with whole bytes after it; else
nothing. -/
structure RowGap (fill : Bool) (gap bits : Bits) : Prop where
  aligned : fill = true → gap.length < 8 ∧ bits.length % 8 = 0
  unaligned : fill = false → gap = []

theorem rowGap_nil {bits : Bits} (fill : Bool) (h : bits.length % 8 = 0) : RowGap fill [] bits :=
  ⟨fun _ => ⟨by simp, h⟩, fun _ => rfl⟩

/-- A row start skips the gap before its row (43_rows_and_raster.md R251). -/
theorem upcoming_beginRow {d : State} {gap bits : Bits} (hd : CursorOk d) (hup : d.upcoming = gap ++ bits)
    (hgap : RowGap d.fill gap bits) : d.beginRow.upcoming = bits := by
  cases hfill : d.fill with
  | true =>
    obtain ⟨hshort, hwhole⟩ := hgap.aligned hfill
    have hflush := upcoming_flush hd hup hshort hwhole
    simpa [State.upcoming, hfill] using hflush
  | false =>
    rw [hgap.unaligned hfill, List.nil_append] at hup
    simpa [State.upcoming, hfill] using hup

end Sys2Proof.Machine
end

section
/-!
PROOFS. Rasters as rows of bytes: reading and writing them in a memory, and a raster with its padding cleared
(20_memory.md R61, R65, 43_rows_and_raster.md R265, 93_implementation_defined.md U6).
-/

namespace Sys2Proof.Machine

/-! ### Buffers -/

theorem Memory.writeBytes_append (m : Memory) (a : Nat) (xs ys : List Byte) :
    m.writeBytes a (xs ++ ys) = (m.writeBytes a xs).writeBytes (a + xs.length) ys := by
  induction xs generalizing m a with
  | nil => rfl
  | cons x xs ih =>
    rw [List.cons_append, Memory.writeBytes, ih, Memory.writeBytes, List.length_cons, Nat.add_right_comm, Nat.add_assoc]

/-- Bytes written beyond the last address are appended. -/
theorem Memory.writeBytes_beyond {m : Memory} {a : Nat} (h : ∀ k ∈ m.map Prod.fst, k < a) (bs : List Byte) :
    m.writeBytes a bs = m ++ (List.range' a bs.length).zip bs := by
  induction bs generalizing m a with
  | nil => simp [Memory.writeBytes]
  | cons b bs ih =>
    have hnext : ∀ k ∈ (m ++ [(a, b)]).map Prod.fst, k < a + 1 := by
      intro k hk
      rw [List.map_append, List.mem_append] at hk
      rcases hk with hk | hk
      · exact Nat.lt_succ_of_lt (h k hk)
      · exact Nat.lt_succ_of_le (Nat.le_of_eq (by simpa using hk))
    rw [Memory.writeBytes, Memory.write_beyond h, ih hnext, List.append_assoc, List.length_cons, List.range'_succ,
      List.zip_cons_cons]
    rfl

/-- A dense memory is the buffer of its bytes. -/
theorem Memory.ofBytes_of_holdsExactly {m : Memory} {n : Nat} (h : m.holdsExactly n = true) :
    Memory.ofBytes (m.map Prod.snd) = m := by
  have haddr := Memory.holdsExactly_iff.1 h
  have hlen : m.length = n := by simpa using congrArg List.length haddr
  rw [Memory.ofBytes, Memory.writeBytes_beyond (by simp), List.nil_append, List.length_map, hlen,
    ← List.range_eq_range', ← haddr]
  exact (List.zip_of_prod rfl rfl).symm

theorem Memory.holdsExactly_ofBytes (bs : List Byte) : (Memory.ofBytes bs).holdsExactly bs.length = true := by
  have h := Memory.holdsExactly_writeBytes (m := []) (n := 0) rfl bs
  rwa [Nat.zero_add] at h

theorem Memory.readBytes_ofBytes {bs : List Byte} {a n : Nat} (h : a + n ≤ bs.length) :
    (Memory.ofBytes bs).readBytes a n = some ((bs.drop a).take n) := by
  induction n generalizing a with
  | zero => simp [Memory.readBytes]
  | succ n ih =>
    have ha : a < bs.length := by omega
    have hread := Memory.read_ofBytes ha
    rw [List.getElem?_eq_getElem ha] at hread
    rw [Memory.readBytes, hread, ih (by omega), List.drop_eq_getElem_cons ha, List.take_succ_cons]

/-! ### The rows of a raster -/

theorem getElem?_packedRow (raster : List Byte) (width : Int) (r : Nat) {x : Nat} (hx : x < rowBytes width) :
    (packedRow raster width r)[x]? = raster[r * rowBytes width + x]? := by
  rw [packedRow, List.getElem?_take_of_lt hx, List.getElem?_drop]

theorem length_packedRow {raster : List Byte} {width : Int} {rows r : Nat}
    (hlen : raster.length = rows * rowBytes width) (hr : r < rows) :
    (packedRow raster width r).length = rowBytes width := by
  have hend : (r + 1) * rowBytes width ≤ rows * rowBytes width := Nat.mul_le_mul_right _ hr
  rw [Nat.succ_mul] at hend
  rw [packedRow, List.length_take, List.length_drop]
  omega

/-- A raster is its rows. -/
theorem raster_ext {raster raster' : List Byte} {width : Int} {rows : Nat}
    (hlen : raster.length = rows * rowBytes width) (hlen' : raster'.length = rows * rowBytes width)
    (h : ∀ r, r < rows → packedRow raster width r = packedRow raster' width r) : raster = raster' := by
  refine List.ext_getElem? fun j => ?_
  by_cases hj : j < rows * rowBytes width
  · have hpos : 0 < rowBytes width := Nat.pos_of_mul_pos_left (Nat.zero_lt_of_lt hj)
    have hcolumn := Nat.mod_lt j hpos
    have hline := h (j / rowBytes width) (Nat.div_lt_of_lt_mul (by rwa [Nat.mul_comm]))
    have hrow := congrArg (·[j % rowBytes width]?) hline
    simp only [getElem?_packedRow _ _ _ hcolumn, Nat.div_add_mod'] at hrow
    exact hrow
  · rw [List.getElem?_eq_none (by omega), List.getElem?_eq_none (by omega)]

/-- Row by row concatenation, taken apart again. -/
theorem take_drop_flatMap_range' {f : Nat → List Byte} {k : Nat} (hf : ∀ r, (f r).length = k) {a n r : Nat}
    (hr : r < n) : (((List.range' a n).flatMap f).drop (r * k)).take k = f (a + r) := by
  induction r generalizing a n with
  | zero =>
    obtain _ | n := n
    · cases hr
    · rw [List.range'_succ, List.flatMap_cons, Nat.zero_mul, List.drop_zero, List.take_left' (hf a)]
      rfl
  | succ r ih =>
    obtain _ | n := n
    · cases hr
    · rw [List.range'_succ, List.flatMap_cons, Nat.succ_mul, Nat.add_comm (r * k), ← List.drop_drop,
        List.drop_left' (hf a), ih (Nat.lt_of_succ_lt_succ hr), Nat.add_assoc, Nat.add_comm 1]

/-! ### Clearing the padding -/

/-- Row `r` of a raster with its padding bits cleared: scanned and packed again. -/
def clearedRow (raster : List Byte) (width : Int) (r : Nat) : List Byte :=
  fromChangingElements (toChangingElements (packedRow raster width r) width) width

/-- The `n` rows from row `r` on, with their padding bits cleared. -/
def clearedRows (raster : List Byte) (width : Int) (r n : Nat) : List Byte :=
  (List.range' r n).flatMap (clearedRow raster width)

theorem length_clearedRow (raster : List Byte) (width : Int) (r : Nat) :
    (clearedRow raster width r).length = rowBytes width :=
  length_fromChangingElements _ _

theorem clearedRows_succ (raster : List Byte) (width : Int) (r n : Nat) :
    clearedRows raster width r (n + 1) = clearedRow raster width r ++ clearedRows raster width (r + 1) n := by
  rw [clearedRows, List.range'_succ, List.flatMap_cons]
  rfl

theorem length_clearedRows (raster : List Byte) (width : Int) (r n : Nat) :
    (clearedRows raster width r n).length = n * rowBytes width := by
  simp [clearedRows, List.length_flatMap, length_clearedRow]

theorem packedRow_clearedRows {raster : List Byte} {width : Int} {n r : Nat} (hr : r < n) :
    packedRow (clearedRows raster width 0 n) width r = clearedRow raster width r := by
  rw [packedRow, clearedRows, take_drop_flatMap_range' (length_clearedRow raster width) hr, Nat.zero_add]

theorem packedPixel_clearedRow (raster : List Byte) (width : Int) (r x : Nat) :
    packedPixel (clearedRow raster width r) x =
      (decide (x < width.toNat) && packedPixel (packedRow raster width r) x) :=
  packedPixel_from_toChangingElements _ _ _

/-- The cleared raster has zero padding (44_encoder.md R305). -/
theorem rasterOk_clearedRows (raster : List Byte) (width height : Int) :
    RasterOk (clearedRows raster width 0 height.toNat) width height := by
  refine ⟨length_clearedRows _ _ _ _, fun r hr x hx _ => ?_⟩
  rw [packedRow_clearedRows hr, packedPixel_clearedRow, decide_eq_false (Nat.not_lt.2 hx), Bool.false_and]

/-- Where the padding is zero, clearing it changes nothing. -/
theorem clearedRows_of_rasterOk {raster : List Byte} {width height : Int} (hwidth : 0 < width)
    (h : RasterOk raster width height) : clearedRows raster width 0 height.toNat = raster := by
  obtain ⟨hlen, hpad⟩ := h
  obtain ⟨-, hinverse, -⟩ := rasterAssemblyInverts
  refine raster_ext (length_clearedRows _ _ _ _) hlen fun r hr => ?_
  rw [packedRow_clearedRows hr]
  exact hinverse width _ hwidth (length_packedRow hlen hr) (hpad r hr)

end Sys2Proof.Machine
end

section
/-!
PROOFS. The round trip: what `compress` writes, `decompress` reads back row by row (44_encoder.md R298, R304, R305).
-/

namespace Sys2Proof.Machine

/-! ### Inside a row -/

/-- The encoder at work: between two rows, or inside one where `inRow`. -/
structure State.Encoding (e : State) (inRow : Bool) : Prop where
  stage_eq : e.stage = .busy
  open_eq : e.rowOpen = inRow
  call_ok : CallOk e
  writer_ok : WriterOk e.wr

theorem State.Encoding.row_ok {e : State} {inRow : Bool} (he : e.Encoding inRow) : RowOk e :=
  he.call_ok.rowOk he.stage_eq

/-- A step that leaves the encoder busy keeps it well formed. -/
theorem State.Encoding.of_step {e t : State} {inRow inRow' : Bool} (he : e.Encoding inRow) (hstep : step e = .next t)
    (hstage : t.stage = .busy) (hopen : t.rowOpen = inRow') : t.Encoding inRow' :=
  have hcase := stepCase_of_step hstep
  ⟨hstage, hopen, hcase.keeps_callOk he.call_ok, hcase.wr.keeps_ok he.writer_ok⟩

/-- A decoder in step with the encoder reads these bits as the rest of the row. -/
def State.RestDecodes (e : State) (bits : Bits) : Prop :=
  ∀ (d : State) (rest : Bits), InStep e d → d.stage = nextStage d.width d.a0 → d.Reads (bits ++ rest) →
    ∃ m d', run m d = .next d' ∧ d'.stage = .rowEnd ∧ d'.cur = e.cur ∧ d'.Reads rest ∧ SameRow d d'

/-- The encoder fills its row, writing bits that a decoder reads as the rest of it. -/
def State.FillsRow (e : State) : Prop :=
  ∃ n e' bits, run n e = .next e' ∧ e'.Encoding true ∧ e'.width ≤ e'.a0 ∧ SameRow e e' ∧ e'.cur = e.cur ∧
    e'.wr.written = e.wr.written ++ bits ∧ e.RestDecodes bits

theorem fillsRow_of_full {e : State} (he : e.Encoding true) (hfull : e.width ≤ e.a0) : e.FillsRow := by
  refine ⟨0, e, [], rfl, he, hfull, sameRow_refl e, rfl, (List.append_nil _).symm, fun d rest hsame hstage hd => ?_⟩
  have hend : d.stage = .rowEnd := by rw [hstage, hsame.width_eq, hsame.a0_eq]; exact if_pos hfull
  have hline : d.cur = e.cur := hsame.cur_eq.trans (elementsUpTo_of_full he.row_ok.cur_line hfull)
  exact ⟨0, d, rfl, hend, hline, hd, sameRow_refl d⟩

/-- One choice in front of the rest of the row. -/
theorem fillsRow_of_choice {e : State} (he : e.Encoding true) (hlow : e.a0 < e.width)
    (hrest : e.encodeStep.FillsRow) : e.FillsRow := by
  obtain ⟨n, e', bits, hrun, he', hfull, hrow, hcur, hwritten, hdecodes⟩ := hrest
  have hstep := step_of_choice he.stage_eq he.open_eq hlow
  have hstepped : SameRow e e.encodeStep ∧ e.encodeStep.cur = e.cur ∧
      e.encodeStep.wr.written = e.wr.written ++ encodeAll (e.choice.words e.color e.a0) := by
    rw [State.encodeStep_eq]
    exact ⟨⟨by constructor <;> rfl, rfl, rfl, rfl⟩, rfl, BitWriter.written_emit he.writer_ok _⟩
  obtain ⟨hrow0, hcur0, hwritten0⟩ := hstepped
  refine ⟨n + 1, e', encodeAll (e.choice.words e.color e.a0) ++ bits, (run_of_step hstep n).trans hrun, he', hfull,
    hrow0.trans hrow, hcur.trans hcur0, ?_, fun d rest hsame hstage hd => ?_⟩
  · rw [hwritten, hwritten0, List.append_assoc]
  · have hmode : d.stage = .readMode := by
      rw [hstage, hsame.width_eq, hsame.a0_eq]
      exact if_neg (not_le.2 hlow)
    rw [List.append_assoc] at hd
    obtain ⟨k, d1, hrun1, hsame1, hd1, hrow1, hstage1⟩ := lockStep he.row_ok hlow hsame hmode hd
    rw [← hrow1.width] at hstage1
    obtain ⟨m, d', hrun2, hend, hline, hd', hrow2⟩ := hdecodes d1 rest hsame1 hstage1 hd1
    exact ⟨k + m, d', (run_add m hrun1).trans hrun2, hend, hline.trans hcur0, hd', hrow1.trans hrow2⟩

/-- Every choice moves `a0` right, so the row is filled (44_encoder.md R306). -/
theorem encoder_fillsRow {e : State} (he : e.Encoding true) : e.FillsRow := by
  induction hleft : (e.width - e.a0).toNat using Nat.strong_induction_on generalizing e with
  | _ left ih =>
    rcases le_or_gt e.width e.a0 with hfull | hlow
    · exact fillsRow_of_full he hfull
    · have hstep := step_of_choice he.stage_eq he.open_eq hlow
      obtain ⟨hmoved, -⟩ := choice_target_bounds he.row_ok hlow
      have hstepped : e.encodeStep.stage = .busy ∧ e.encodeStep.rowOpen = true ∧ e.encodeStep.width = e.width ∧
          e.a0 < e.encodeStep.a0 := by
        rw [State.encodeStep_eq]
        exact ⟨he.stage_eq, he.open_eq, rfl, hmoved⟩
      obtain ⟨hstage, hopen, hwidth, hright⟩ := hstepped
      exact fillsRow_of_choice he hlow (ih _ (by omega) (he.of_step hstep hstage hopen) rfl)

/-! ### A whole row -/

/-- The decoder about to start the row that the encoder is about to start. -/
structure SameStart (e d : State) : Prop where
  stage_eq : d.stage = .rowStart
  mixed_eq : d.mixed = false
  width_eq : d.width = e.width
  height_eq : d.height = e.height
  fill_eq : d.fill = e.fill
  ref_eq : d.ref = e.ref
  row_eq : d.row = e.row

/-- A decoder at the row start reads these bits, after the gap before them, as a row with this line. -/
def State.RowDecodes (e : State) (line : List Int) (bits : Bits) : Prop :=
  ∀ (d : State) (gap rest : Bits), SameStart e d → RowGap d.fill gap (bits ++ rest) →
    d.Reads (gap ++ (bits ++ rest)) →
    ∃ m d', run m d = .next d' ∧ SameConfig d d' ∧ d'.Reads rest ∧ d'.ref = line ∧ d'.row = e.row + 1 ∧
      d'.stage = (if ((e.row + 1 : Nat) : Int) = e.height then .done else .rowStart) ∧
      d'.ras = d.ras.writeBytes (e.row * rowBytes e.width) (fromChangingElements line e.width)

/-- The encoder inside the row that it has just loaded. -/
def State.loaded (e : State) (bytes : List Byte) : State :=
  { e with cur := toChangingElements bytes e.width, a0 := -1, color := .white, rowOpen := true }

/-- The decoder at the start of its row: what it reads there is the row. -/
theorem reads_beginRow {d : State} {gap bits : Bits} (hstage : d.stage = .rowStart) (hmixed : d.mixed = false)
    (hd : d.Reads (gap ++ bits)) (hgap : RowGap d.fill gap bits) :
    ∃ d', step d = .next d' ∧ d'.stage = .readMode ∧ d'.a0 = -1 ∧ d'.color = .white ∧ d'.cur = [] ∧ d'.Reads bits ∧
      SameRow d d' := by
  have htag : d.eolSeen = false := Bool.eq_false_iff.2 fun h => by simpa [hmixed] using (hd.temp_ok.tag_due h).2
  have hstep := step_of_rowStart_unframed hstage hmixed htag
  have htemp := (stepCase_of_step hstep).keeps_tempOk hd.temp_ok
  have hcursor := cursorInvariantKept d _ hd.cursor_ok hstep
  exact ⟨_, hstep, rfl, rfl, rfl, rfl,
    ⟨htemp, hcursor, hd.loaded, upcoming_beginRow hd.cursor_ok hd.upcoming_eq hgap⟩,
    ⟨by constructor <;> rfl, rfl, rfl, rfl⟩⟩

theorem reads_endRow {d : State} {bits : Bits} (hstage : d.stage = .rowEnd) (hd : d.Reads bits) :
    d.endRow.Reads bits :=
  have hstep := step_of_rowEnd hstage
  ⟨(stepCase_of_step hstep).keeps_tempOk hd.temp_ok, cursorInvariantKept d _ hd.cursor_ok hstep, hd.loaded,
    hd.upcoming_eq⟩

/-- A decoder reads the row that the encoder has just loaded, from its row start to its row end. -/
theorem rowDecodes_of_loaded {e : State} {bytes : List Byte} {bits : Bits} (hwidth : 0 < e.width)
    (h : (e.loaded bytes).RestDecodes bits) : e.RowDecodes (toChangingElements bytes e.width) bits := by
  intro d gap rest hstart hgap hd
  obtain ⟨d1, hstep1, hstage1, ha0, hcolor, hcur, hd1, hrow1⟩ := reads_beginRow hstart.stage_eq hstart.mixed_eq hd hgap
  have hwidth1 : d1.width = e.width := hrow1.width.trans hstart.width_eq
  have hnone : elementsUpTo (toChangingElements bytes e.width) (-1) = [] :=
    elementsUpTo_of_right fun x hx => by
      have := ((toChangingElements_lineOk bytes e.width).1 x hx).1
      omega
  have hsame : InStep (e.loaded bytes) d1 :=
    ⟨hwidth1, hrow1.ref.trans hstart.ref_eq, ha0, hcolor, hcur.trans hnone.symm⟩
  have hmode : d1.stage = nextStage d1.width d1.a0 := by
    rw [hstage1, hwidth1, ha0, nextStage, if_neg (by omega)]
  obtain ⟨m, d2, hrun, hend, hline, hd2, hrow2⟩ := h d1 rest hsame hmode hd1
  have hrow := hrow1.trans hrow2
  have hrun3 := run_add 1 ((run_of_step hstep1 m).trans hrun)
  rw [run_one, step_of_rowEnd hend] at hrun3
  have hwidth2 := hrow.width.trans hstart.width_eq
  have hcount := hrow.row.trans hstart.row_eq
  have hlast := hrow.height.trans hstart.height_eq
  refine ⟨m + 1 + 1, d2.endRow, hrun3, hrow.toSameConfig.trans (by constructor <;> rfl), reads_endRow hend hd2, hline,
    ?_, ?_, ?_⟩
  · rw [State.endRow_row, hcount]
  · rw [State.endRow_stage, hcount, hlast]
  · rw [State.endRow_ras, hrow.ras, hcount, hwidth2, hline]
    rfl

/-! ### The encoder's row -/

/-- Two pads are one: no byte has been begun after the first. -/
theorem BitWriter.pad_rowPad {w : BitWriter} (hw : WriterOk w) (fill : Bool) :
    (if fill then w.pad else w).pad = w.pad := by
  cases fill with
  | true => exact BitWriter.pad_of_empty (BitWriter.written_pad hw).1
  | false => rfl

/-- The pad of a row end: where rows are byte aligned, fewer than eight bits up to a byte boundary; else nothing. -/
theorem BitWriter.written_rowPad {w : BitWriter} (hw : WriterOk w) (fill : Bool) :
    ∃ gap : Bits, (if fill then w.pad else w).written = w.written ++ gap ∧
      (fill = true → gap.length < 8 ∧ (if fill then w.pad else w).cnt = 0) ∧ (fill = false → gap = []) := by
  cases fill with
  | true =>
    obtain ⟨hcnt, gap, hshort, hwritten⟩ := BitWriter.written_pad hw
    exact ⟨gap, hwritten, fun _ => ⟨hshort, hcnt⟩, by simp⟩
  | false => exact ⟨[], (List.append_nil _).symm, by simp, fun _ => rfl⟩

/-- The encoder writes a row: bits that a decoder reads as the row, then a pad. -/
structure EncodesRow (e e' : State) (line : List Int) (bits gap : Bits) : Prop where
  config : SameConfig e e'
  ras_eq : e'.ras = e.ras
  ref_eq : e'.ref = line
  row_eq : e'.row = e.row + 1
  written : e'.wr.written = e.wr.written ++ (bits ++ gap)
  decodes : e.RowDecodes line bits

/-- The end of an encoded row, with the writer after its pads (44_encoder.md R300, R301). -/
def State.rowEncoded (s : State) (w : BitWriter) (stage : Stage) : State :=
  { s with wr := w, ref := s.cur, row := s.row + 1, rowOpen := false, stage := stage }

theorem endEncodedRow_of_last {s : State} (hw : WriterOk s.wr) (h : ((s.row + 1 : Nat) : Int) = s.height) :
    s.endEncodedRow = s.rowEncoded s.wr.pad .done := by
  rw [State.endEncodedRow, if_pos h, BitWriter.pad_rowPad hw]
  rfl

theorem endEncodedRow_of_more {s : State} (h : ((s.row + 1 : Nat) : Int) ≠ s.height) :
    s.endEncodedRow = s.rowEncoded (if s.fill then s.wr.pad else s.wr) s.stage :=
  if_neg h

theorem encodesRow_of_loaded {e e1 : State} {bytes : List Byte} {bits gap : Bits} {w : BitWriter} (stage : Stage)
    (hwidth : 0 < e.width) (hrow : SameRow (e.loaded bytes) e1) (hcur : e1.cur = (e.loaded bytes).cur)
    (hwritten : e1.wr.written = e.wr.written ++ bits) (hrest : (e.loaded bytes).RestDecodes bits)
    (hpad : w.written = e1.wr.written ++ gap) :
    EncodesRow e (e1.rowEncoded w stage) (toChangingElements bytes e.width) bits gap where
  config := ⟨hrow.width, hrow.height, hrow.fill, hrow.mixed, hrow.src, hrow.srcLen, hrow.call⟩
  ras_eq := hrow.ras
  ref_eq := hcur
  row_eq := congrArg (· + 1) hrow.row
  written := by rw [← List.append_assoc, ← hwritten]; exact hpad
  decodes := rowDecodes_of_loaded hwidth hrest

/-- The encoder writes its row, the last of the call or one more before the next. -/
theorem encodesRow_of_rasterRow {e : State} {bytes : List Byte} (he : e.Encoding false)
    (hbytes : e.rasterRow = some bytes) :
    ∃ n e' bits gap, run n e = .next e' ∧ EncodesRow e e' (toChangingElements bytes e.width) bits gap ∧
      ((((e.row + 1 : Nat) : Int) = e.height ∧ e'.stage = .done ∧ WriterOk e'.wr ∧ e'.wr.cnt = 0) ∨
       (((e.row + 1 : Nat) : Int) ≠ e.height ∧ e'.Encoding false ∧
         (e.fill = true → gap.length < 8 ∧ e'.wr.cnt = 0) ∧ (e.fill = false → gap = []))) := by
  have hload : step e = .next (e.loaded bytes) := step_of_rowLoad he.stage_eq he.open_eq hbytes
  have hloaded : (e.loaded bytes).Encoding true := he.of_step hload he.stage_eq rfl
  obtain ⟨n, e1, bits, hrun, he1, hfull, hrow, hcur, hwritten, hrest⟩ := encoder_fillsRow hloaded
  have hstep := step_of_rowFull he1.stage_eq he1.open_eq hfull
  have hwidth := he.row_ok.width_pos
  have hcount : ((e1.row + 1 : Nat) : Int) = e1.height ↔ ((e.row + 1 : Nat) : Int) = e.height := by
    rw [hrow.row, hrow.height]
    rfl
  have hrun1 := (run_add 1 ((run_of_step hload n).trans hrun)).trans ((run_one e1).trans hstep)
  by_cases hlast : ((e.row + 1 : Nat) : Int) = e.height
  · obtain ⟨hcnt, gap, -, hpad⟩ := BitWriter.written_pad he1.writer_ok
    rw [endEncodedRow_of_last he1.writer_ok (hcount.2 hlast)] at hrun1
    exact ⟨_, _, bits, gap, hrun1, encodesRow_of_loaded .done hwidth hrow hcur hwritten hrest hpad,
      .inl ⟨hlast, rfl, e1.wr.pad_writesTo.keeps_ok he1.writer_ok, hcnt⟩⟩
  · obtain ⟨gap, hpad, haligned, hunaligned⟩ := BitWriter.written_rowPad he1.writer_ok e1.fill
    rw [endEncodedRow_of_more (mt hcount.1 hlast)] at hstep hrun1
    have hfill : e1.fill = e.fill := hrow.fill
    exact ⟨_, _, bits, gap, hrun1, encodesRow_of_loaded e1.stage hwidth hrow hcur hwritten hrest hpad,
      .inr ⟨hlast, he1.of_step hstep he1.stage_eq rfl, hfill ▸ haligned, hfill ▸ hunaligned⟩⟩

/-! ### All rows -/

/-- The encoder writes the rest of the call: bits from which a decoder at the same row, after a gap, gets the rows of
the raster from that row on, with their padding cleared. -/
def State.FinishesCall (e : State) (raster : List Byte) (rows : Nat) : Prop :=
  ∃ n e' bits, run n e = .next e' ∧ e'.stage = .done ∧ SameConfig e e' ∧ WriterOk e'.wr ∧ e'.wr.cnt = 0 ∧
    e'.wr.written = e.wr.written ++ bits ∧
    ∀ d gap, SameStart e d → RowGap d.fill gap bits → d.Reads (gap ++ bits) →
      ∃ m d', run m d = .next d' ∧ d'.stage = .done ∧ SameConfig d d' ∧
        d'.ras = d.ras.writeBytes (e.row * rowBytes e.width) (clearedRows raster e.width e.row rows)

/-- Whole bytes lie between two states of a writer in which no byte has been begun. -/
theorem whole_bytes_of_written {w w' : BitWriter} {bits : Bits} (h : w'.written = w.written ++ bits) (hw : w.cnt = 0)
    (hw' : w'.cnt = 0) : bits.length % 8 = 0 := by
  have hlen := congrArg List.length h
  rw [List.length_append, BitWriter.length_written, BitWriter.length_written, hw, hw'] at hlen
  omega

section FinishesCall
variable {raster : List Byte} {e e1 : State} {bits gap : Bits} {n : Nat} (hrun : run n e = .next e1)
  (hrow : EncodesRow e e1 (toChangingElements (packedRow raster e.width e.row) e.width) bits gap)
include hrun hrow

theorem finishesCall_of_last (hlast : ((e.row + 1 : Nat) : Int) = e.height) (hdone : e1.stage = .done)
    (hw : WriterOk e1.wr) (hcnt : e1.wr.cnt = 0) : e.FinishesCall raster 1 := by
  refine ⟨n, e1, bits ++ gap, hrun, hdone, hrow.config, hw, hcnt, hrow.written, fun d gap0 hstart hgap hd => ?_⟩
  obtain ⟨m, d', hrun', hconfig, -, -, -, hstage, hras⟩ := hrow.decodes d gap0 gap hstart hgap hd
  refine ⟨m, d', hrun', hstage.trans (if_pos hlast), hconfig, hras.trans ?_⟩
  rw [clearedRows_succ]
  exact congrArg _ (List.append_nil _).symm

/-- One row in front of the rest of the call: its pad is the gap before the next row. -/
theorem finishesCall_of_more {rows : Nat} (hmore : ((e.row + 1 : Nat) : Int) ≠ e.height)
    (haligned : e.fill = true → gap.length < 8 ∧ e1.wr.cnt = 0) (hunaligned : e.fill = false → gap = [])
    (hrest : e1.FinishesCall raster rows) : e.FinishesCall raster (rows + 1) := by
  obtain ⟨n1, e', bits1, hrun1, hdone, hconfig1, hw, hcnt, hwritten1, hdecodes1⟩ := hrest
  refine ⟨n + n1, e', bits ++ (gap ++ bits1), (run_add n1 hrun).trans hrun1, hdone, hrow.config.trans hconfig1, hw,
    hcnt, by rw [hwritten1, hrow.written]; simp only [List.append_assoc], fun d gap0 hstart hgap hd => ?_⟩
  obtain ⟨m, d1, hrun2, hconfig2, hd1, href, hcount, hstage, hras1⟩ := hrow.decodes d gap0 _ hstart hgap hd
  have hfill : d1.fill = e.fill := hconfig2.fill.trans hstart.fill_eq
  have hgap1 : RowGap d1.fill gap bits1 := by
    rw [hfill]
    exact ⟨fun h => ⟨(haligned h).1, whole_bytes_of_written hwritten1 (haligned h).2 hcnt⟩, hunaligned⟩
  have hstart1 : SameStart e1 d1 :=
    ⟨hstage.trans (if_neg hmore), hconfig2.mixed.trans hstart.mixed_eq,
      hconfig2.width.trans (hstart.width_eq.trans hrow.config.width.symm),
      hconfig2.height.trans (hstart.height_eq.trans hrow.config.height.symm), hfill.trans hrow.config.fill.symm,
      href.trans hrow.ref_eq.symm, hcount.trans hrow.row_eq.symm⟩
  obtain ⟨m1, d', hrun3, hdone', hconfig3, hras2⟩ := hdecodes1 d1 gap hstart1 hgap1 hd1
  refine ⟨m + m1, d', (run_add m1 hrun2).trans hrun3, hdone', hconfig2.trans hconfig3, ?_⟩
  rw [hras2, hras1, hrow.row_eq, hrow.config.width, clearedRows_succ, Memory.writeBytes_append, length_clearedRow,
    Nat.succ_mul]
  rfl

end FinishesCall

theorem rasterRow_ofBytes {e : State} {raster : List Byte} (hras : e.ras = Memory.ofBytes raster)
    (hlen : raster.length = e.height.toNat * rowBytes e.width) (hrow : (e.row : Int) < e.height) :
    e.rasterRow = some (packedRow raster e.width e.row) := by
  have hend : (e.row + 1) * rowBytes e.width ≤ e.height.toNat * rowBytes e.width :=
    Nat.mul_le_mul_right _ (by omega)
  rw [Nat.succ_mul] at hend
  rw [State.rasterRow, hras, Memory.readBytes_ofBytes (by omega)]
  rfl

/-- The encoder finishes its call, by the number of rows left. -/
theorem encoder_finishesCall {raster : List Byte} {rows : Nat} {e : State} (he : e.Encoding false)
    (hras : e.ras = Memory.ofBytes raster) (hlen : raster.length = e.height.toNat * rowBytes e.width)
    (hrows : ((e.row + rows : Nat) : Int) = e.height) : e.FinishesCall raster rows := by
  induction rows generalizing e with
  | zero =>
    have hlow := he.row_ok.row_low
    omega
  | succ rows ih =>
    obtain ⟨n, e1, bits, gap, hrun, hrow, hnext⟩ :=
      encodesRow_of_rasterRow he (rasterRow_ofBytes hras hlen he.row_ok.row_low)
    rcases hnext with ⟨hlast, hdone, hw, hcnt⟩ | ⟨hmore, he1, haligned, hunaligned⟩
    · obtain rfl : rows = 0 := by omega
      exact finishesCall_of_last hrun hrow hlast hdone hw hcnt
    · have hlen1 : raster.length = e1.height.toNat * rowBytes e1.width := by
        rw [hrow.config.height, hrow.config.width, hlen]
      have hrows1 : ((e1.row + rows : Nat) : Int) = e1.height := by
        rw [hrow.config.height, hrow.row_eq]
        omega
      exact finishesCall_of_more hrun hrow hmore haligned hunaligned (ih he1 (hrow.ras_eq.trans hras) hlen1 hrows1)

/-! ### The two calls -/

/-- A `compress` call that has begun. -/
def State.compressBegun (raster : List Byte) (width height : Int) (fill : Bool) : State :=
  { (State.compressCall raster width height fill).freshCall with stage := .busy }

/-- A `decompress` call without framing that has begun. -/
def State.decompressBegun (src : List Byte) (width height : Int) (fill : Bool) : State :=
  { (State.decompressCall src width height fill false).freshCall with ras := [], stage := .rowStart }

theorem compressBegun_encoding {raster : List Byte} {width height : Int} {fill : Bool} (hwidth : 0 < width)
    (hheight : 0 < height) (hlen : raster.length = height.toNat * rowBytes width) :
    step (State.compressCall raster width height fill) = .next (State.compressBegun raster width height fill) ∧
      (State.compressBegun raster width height fill).Encoding false := by
  have hras : (Memory.ofBytes raster).holdsExactly (height.toNat * rowBytes width) = true :=
    hlen ▸ Memory.holdsExactly_ofBytes raster
  have hstep := step_of_compress_legal (s := State.compressCall raster width height fill) rfl rfl
    (legalGeometry_iff.2 ⟨hwidth, hheight⟩) hras
  have hcase := stepCase_of_step hstep
  exact ⟨hstep, rfl, rfl, hcase.keeps_callOk (callOk_of_idle rfl), hcase.wr.keeps_ok (writerOk_fresh .le)⟩

theorem decompressBegun_step {src : List Byte} {width height : Int} (fill : Bool) (hwidth : 0 < width)
    (hheight : 0 < height) : step (State.decompressCall src width height fill false) =
      .next (State.decompressBegun src width height fill) := by
  rw [step_of_decompress rfl rfl, startDecompress_of_legal (legalGeometry_iff.2 ⟨hwidth, hheight⟩)]
  rfl

theorem decompressBegun_sameStart (raster src : List Byte) (width height : Int) (fill : Bool) :
    SameStart (State.compressBegun raster width height fill) (State.decompressBegun src width height fill) :=
  ⟨rfl, rfl, rfl, rfl, rfl, rfl, rfl⟩

/-- The bits of a source are those of the writer whose `SINK` it is. -/
theorem decompressBegun_reads {w : BitWriter} (hw : WriterOk w) (hcnt : w.cnt = 0) (width height : Int) (fill : Bool) :
    (State.decompressBegun (w.sink.map Prod.snd) width height fill).Reads w.written := by
  have hsink := Memory.ofBytes_of_holdsExactly hw.sink_dense
  have hlen : w.sink.length = w.sinkLen := by
    simpa using congrArg List.length (Memory.holdsExactly_iff.1 hw.sink_dense)
  refine ⟨tempOk_of_cleared rfl rfl rfl rfl, cursorOk_fresh .le rfl,
    (decodeOk_decompressCall _ width height fill false).loaded, ?_⟩
  rw [BitWriter.written_of_empty hcnt, List.range_eq_range']
  change (List.range' 0 (8 * (w.sink.map Prod.snd).length)).map (streamBit (Memory.ofBytes (w.sink.map Prod.snd))) = _
  rw [hsink, List.length_map, hlen]

/-- Settles O60: the encoder finishes its call, and the decoder gets the rows of the raster from its bits, their padding
cleared by scanning and packing. -/
theorem decompressInvertsCompress : Obligations.DecompressInvertsCompress := by
  intro raster width height fill hwidth hheight hlen
  obtain ⟨hstart, henc⟩ := compressBegun_encoding (fill := fill) hwidth hheight hlen
  obtain ⟨n, e, bits, hrun, hdone, hconfig, hw, hcnt, hwritten, hdecodes⟩ :=
    encoder_finishesCall henc rfl hlen (show ((0 + height.toNat : Nat) : Int) = height by omega)
  have hbits : e.wr.written = bits := hwritten
  have hreads := decompressBegun_reads hw hcnt width height fill
  rw [hbits] at hreads
  have hwhole := whole_bytes_of_written (w := BitWriter.fresh .le) hwritten rfl hcnt
  obtain ⟨m, d, hrun', hdone', hconfig', hras⟩ :=
    hdecodes _ [] (decompressBegun_sameStart raster _ width height fill) (rowGap_nil _ hwhole) hreads
  refine ⟨n + 1, m + 1, e, d, e.wr.sink.map Prod.snd, clearedRows raster width 0 height.toNat,
    (run_of_step hstart n).trans hrun, hdone, ?_,
    (run_of_step (decompressBegun_step fill hwidth hheight) m).trans hrun', hdone', ?_,
    rasterOk_clearedRows raster width height, fun r hr x hx => ?_, clearedRows_of_rasterOk hwidth⟩
  · rw [State.hostView, hdone, Memory.ofBytes_of_holdsExactly hw.sink_dense]
    exact if_pos hconfig.call
  · have hcall : d.call ≠ .compress := by simp [hconfig'.call, State.decompressBegun, State.decompressCall]
    have hrows : d.ras = Memory.ofBytes (clearedRows raster width 0 height.toNat) :=
      hras.trans (congrArg (Memory.writeBytes [] · _) (Nat.zero_mul _))
    rw [State.hostView, hdone', ← hrows]
    exact if_neg hcall
  · rw [packedRow_clearedRows hr, packedPixel_clearedRow, decide_eq_true hx, Bool.true_and]

end Sys2Proof.Machine
end

section
/-!
PROOFS. The errors: a command of an illegal width, and the steps that end a call (60_exceptions.md R321 to R331).
-/

namespace Sys2Proof.Machine

/-! ### A width outside the legal ones -/

/-- No width outside the printed list is legal (40_bitcursor.md R142). -/
theorem legalWidth_of_not_mem {n : Int} (h : n ∉ ([1, 2, 3, 4, 5, 6, 7, 8, 16, 24, 32] : List Int)) :
    legalWidth n = false :=
  Bool.eq_false_iff.2 fun hlegal => h (mem_widths_of_legal hlegal)

theorem Command.instr_of_illFormed {c : Command} (h : c.wellFormed = false) : c.instr = none :=
  Option.eq_none_iff_forall_ne_some.2 fun _ hi => by simp [Command.wellFormed_of_instr hi] at h

/-- A command that names no instruction answers `InvalidBitCount` and leaves the queue. -/
theorem step_of_illFormed_command {s : State} {c : Command} {rest : List Command} (hstage : s.stage = .idle)
    (hcall : s.call = .standalone) (hcmds : s.cmds = c :: rest) (hc : c.wellFormed = false) :
    step s = .next { s with cmds := rest, resp := .error .invalidBitCount } := by
  simp only [step, fetch, hstage, fetchIdle, hcall, fetchCommand, hcmds, Command.instr_of_illFormed hc]
  rfl

theorem Cursor.readBits_of_illegal {n : Int} (h : legalWidth n = false) (c : Cursor) (src : Memory) (srcLen : Nat) :
    c.readBits src srcLen n = .error .invalidBitCount :=
  if_pos h

theorem BitWriter.writeBits_of_illegal {n : Int} (h : legalWidth n = false) (w : BitWriter) (v : Int) :
    w.writeBits n v = .error .invalidBitCount :=
  if_pos h

/-- Settles O19: an illegal width names no instruction, and the cursor and the writer test it first. -/
theorem illegalWidthIsInvalidBitCount : Obligations.IllegalWidthIsInvalidBitCount := by
  intro s n rest hstage hcall hn
  have hwidth := legalWidth_of_not_mem hn
  exact ⟨fun hcmds => step_of_illFormed_command hstage hcall hcmds hwidth,
    fun _ hcmds => step_of_illFormed_command hstage hcall hcmds hwidth,
    s.rd.readBits_of_illegal hwidth s.src s.srcLen, s.wr.writeBits_of_illegal hwidth⟩

/-! ### The steps that end a call -/

/-- The error kinds that the step of a state may end its call with (60_exceptions.md R325 to R328). -/
inductive State.MayRaise (s : State) : ErrKind → Prop
  | geometry (hstage : s.stage = .idle) (hcall : s.call ≠ .standalone) : MayRaise s .invalidGeometry
  | marker (hctx : s.context = some .eol) : MayRaise s .eolError
  | word {ctx : Context} (hctx : s.context = some ctx) : MayRaise s .decompressionError
  | action (hstage : s.stage = .pass ∨ s.stage = .vert) : MayRaise s .decompressionError

theorem State.MayRaise.ne_none {s : State} {k : ErrKind} (h : s.MayRaise k) : k ≠ .none := by
  cases h <;> simp

theorem step_of_failed {s : State} (h : s.stage = .failed) : step s = .fault .callFailed := by
  simp only [step, fetch, h]

theorem stage_ne_failed_of_step {s t : State} (h : step s = .next t) : s.stage ≠ .failed := fun hstage => by
  simp [step_of_failed hstage] at h

/-- A step raises an error of its own, or does not fail; only the start of a call resets `ERR`. -/
theorem StepCase.raised_or_goes_on {s t : State} (h : StepCase s t) (hstage : s.stage ≠ .failed) :
    (t.stage = .failed ∧ s.MayRaise t.err) ∨ (t.stage ≠ .failed ∧ (s.stage ≠ .idle → t.err = s.err)) := by
  cases h with
  | badGeometry hidle hcall => exact .inl ⟨rfl, .geometry hidle hcall⟩
  | wordRaised hctx _ hk =>
    rcases hk with rfl | ⟨rfl, rfl⟩
    · exact .inl ⟨rfl, .word hctx⟩
    · exact .inl ⟨rfl, .marker hctx⟩
  | actionRaised haction => exact .inl ⟨rfl, .action haction⟩
  | startDecompress hidle | startCompress hidle => exact .inr ⟨by simp, fun hrun => absurd hidle hrun⟩
  | command | eolRead | runGrown | firstRunEnded | rowLoaded | rowEncoded => exact .inr ⟨hstage, fun _ => rfl⟩
  | choiceEncoded => rw [State.encodeStep_eq]; exact .inr ⟨hstage, fun _ => rfl⟩
  | rowBegun | tag0Read | tag1Read | horizLatched | passLatched | vertLatched | lastRowEncoded =>
    exact .inr ⟨by simp, fun _ => rfl⟩
  | passDone | vertDone | horizDone => exact .inr ⟨nextStage_ne (by simp) (by simp), fun _ => rfl⟩
  | oneDDone => exact .inr ⟨nextStageOneD_ne (by simp) (by simp), fun _ => rfl⟩
  | rowEnded => exact .inr ⟨by rw [State.endRow_stage]; split <;> simp, fun _ => rfl⟩

theorem raised_or_goes_on_of_step {s t : State} (h : step s = .next t) :
    (t.stage = .failed ∧ s.MayRaise t.err) ∨ (t.stage ≠ .failed ∧ (s.stage ≠ .idle → t.err = s.err)) :=
  (stepCase_of_step h).raised_or_goes_on (stage_ne_failed_of_step h)

/-- A step into `FAILED` raises an error that its state may raise. -/
theorem mayRaise_of_step {s t : State} (h : step s = .next t) (hfailed : t.stage = .failed) : s.MayRaise t.err :=
  (raised_or_goes_on_of_step h).elim And.right fun hgo => absurd hfailed hgo.1

theorem hostView_of_failed {s : State} (h : s.stage = .failed) : s.hostView = .error s.err := by
  simp only [State.hostView, h]

/-- Settles O42: a step that raises is the only one to write `ERR` in a call, and no step follows it. -/
theorem errorIsStickyAndFinal : Obligations.ErrorIsStickyAndFinal := by
  refine ⟨fun _ => step_of_failed, fun s t hs hstep hrun hchanged => ?changed, fun s t hstep hfailed => ?seen⟩
  case changed =>
    rcases raised_or_goes_on_of_step hstep with ⟨hfailed, hraise⟩ | ⟨-, hsame⟩
    · exact ⟨err_none hs (stage_ne_failed_of_step hstep), hraise.ne_none, hfailed⟩
    · exact absurd (hsame hrun) hchanged
  case seen => exact ⟨(mayRaise_of_step hstep hfailed).ne_none, hostView_of_failed hfailed⟩

/-- A code word is read only at a framed row start, in `READ_MODE` and inside a run. -/
theorem stage_of_context {s : State} {ctx : Context} (hs : TempOk s) (h : s.context = some ctx) :
    (s.stage = .rowStart ∧ s.mixed = true) ∨ s.stage = .readMode ∨ s.stage = .horiz ∨ s.stage = .oneD := by
  rcases context_cases h with ⟨-, hstage⟩ | ⟨_, -, -, hstage⟩ | ⟨-, hstage, -, hmixed⟩ | ⟨-, -, htag⟩
  · exact .inr (.inl hstage)
  · exact .inr (.inr hstage)
  · exact .inl ⟨hstage, hmixed⟩
  · exact .inl (hs.tag_due htag)

theorem framed_of_eol_context {s : State} (h : s.context = some .eol) : s.stage = .rowStart ∧ s.mixed = true := by
  rcases context_cases h with ⟨hctx, -⟩ | ⟨_, hctx, -⟩ | ⟨-, hstage, -, hmixed⟩ | ⟨hctx, -⟩
  · cases hctx
  · cases hctx
  · exact ⟨hstage, hmixed⟩
  · cases hctx

/-- In a well-formed state the `PASS` step does not fail: `FAILED` does not follow it in the transition table. -/
theorem not_failed_of_pass {s t : State} (hs : CallOk s) (hstep : step s = .next t) (hstage : s.stage = .pass) :
    t.stage ≠ .failed := fun hfailed => by
  have hfollows := stagesFollowTable s t hs hstep
  simp [hstage, hfailed, Stage.followers] at hfollows

/-- Settles O43, over the kinds that a step may raise; a well-formed `PASS` step raises none. -/
theorem errorKindsByStep : Obligations.ErrorKindsByStep := by
  intro s t hs htemp hstep hfailed
  have hraise := mayRaise_of_step hstep hfailed
  generalize t.err = k at hraise ⊢
  cases hraise with
  | geometry hstage => exact .inl ⟨rfl, hstage⟩
  | marker hctx => exact .inr (.inl ⟨rfl, framed_of_eol_context hctx⟩)
  | word hctx =>
    refine .inr (.inr ⟨rfl, ?_⟩)
    rcases stage_of_context htemp hctx with hframed | hstage | hstage | hstage
    · exact .inl hframed
    · exact .inr (.inl hstage)
    · exact .inr (.inr (.inl hstage))
    · exact .inr (.inr (.inr (.inr hstage)))
  | action hstage =>
    rcases hstage with hstage | hstage
    · exact absurd hfailed (not_failed_of_pass hs hstep hstage)
    · exact .inr (.inr ⟨rfl, .inr (.inr (.inr (.inl hstage)))⟩)

end Sys2Proof.Machine
end
